-- ==== Sys2Proof/Word.lean ====
section
/-! DEFINITION. The byte and the word of the Z80 (spec/00_scope.md R7, R9) and their plainest arithmetic: the two
halves of a word, a word from its halves, and the sign extension of a displacement byte. -/

namespace Sys2Proof

/-- A byte is 8 bits (R9). -/
abbrev Byte := BitVec 8

/-- A word is 16 bits (R9); addresses, register pairs, PC, SP and port addresses are words (R7). -/
abbrev Word := BitVec 16

namespace Word

/-- `v[15:8]`, the high byte of a word (R9, R30). -/
def hi (w : Word) : Byte := w.extractLsb' 8 8

/-- `v[7:0]`, the low byte of a word (R9, R30). -/
def lo (w : Word) : Byte := w.extractLsb' 0 8

/-- `{h, l}`: the word whose high byte is `h` and whose low byte is `l` (R9, R30). -/
def ofBytes (h l : Byte) : Word := h ++ l

end Word

/-- `sext_16(b)`: a displacement byte read as two's complement and widened to a word, so that adding it to a
word is the `mod16(w + s8(b))` of R142 and R143. -/
def Byte.sext (b : Byte) : Word := b.signExtend 16

end Sys2Proof
end

