-- ==== Sys2Proof/Syntax/Operand.lean ====
section
/-! DEFINITION. The operand types of the instruction syntax: the register fields of spec/10_state.md R35, R38 and R39,
the index registers and their halves (R32), the rotate field of spec/46_rotate_shift.md R396, and the byte after a
redundant index prefix (spec/30_encoding.md R153). -/

namespace Sys2Proof

/-- An 8-bit register field that names a register: codes 0 to 5 and 7 of R35. Code 6, the memory operand, is a
separate instruction form. -/
inductive Reg8 where
  | b | c | d | e | h | l | a
deriving DecidableEq, Repr

/-- The `rp` reading of a register-pair field (R38). -/
inductive RegPair where
  | bc | de | hl | sp
deriving DecidableEq, Repr

/-- The `rp2` reading of a register-pair field, used by PUSH and POP (R38). -/
inductive StackPair where
  | bc | de | hl | af
deriving DecidableEq, Repr

/-- The `rpx` reading of a register-pair field under an index prefix: code 2 is the index register itself (R38). -/
inductive IdxPair where
  | bc | de | xy | sp
deriving DecidableEq, Repr

/-- The two index registers (R32); the prefix 0xDD selects IX and 0xFD selects IY (R131). -/
inductive IdxReg where
  | ix | iy
deriving DecidableEq, Repr

/-- The halves of an index register (R32). -/
inductive Half where
  | hi | lo
deriving DecidableEq, Repr

/-- An 8-bit register field under an index prefix, in an instruction with no memory operand: codes 4 and 5 are the
halves of the index register (R35, R218). -/
inductive HReg where
  | b | c | d | e | xh | xl | a
deriving DecidableEq, Repr

/-- The eight conditions of R39. -/
inductive Cond where
  | nz | z | nc | c | po | pe | p | m
deriving DecidableEq, Repr

/-- The four conditions a conditional JR has (R143). -/
inductive JrCond where
  | nz | z | nc | c
deriving DecidableEq, Repr

/-- The rotate and shift operations in the order of their `y` field (R137, R396). -/
inductive Rot where
  | rlc | rrc | rl | rr | sla | sra | sll | srl
deriving DecidableEq, Repr

/-- The byte after a redundant index prefix (R153). -/
inductive PrefixByte where
  | dd | ed | fd
deriving DecidableEq, Repr

/-- The half register a prefixed 8-bit field names, if it names one. -/
def HReg.isHalf : HReg → Bool
  | .xh => true
  | .xl => true
  | .b => false
  | .c => false
  | .d => false
  | .e => false
  | .a => false

/-- The condition a 2-bit JR condition field stands for: the first four entries of R39. -/
def JrCond.toCond : JrCond → Cond
  | .nz => .nz
  | .z => .z
  | .nc => .nc
  | .c => .c

end Sys2Proof
end

