-- ==== Sys2Proof/Syntax.lean ====
section
/-! DEFINITION. The instruction syntax: one constructor for each of the 232 rows of spec/opcode_table.json, in the table's
order, with the operand fields the row's encoding has (spec/30_encoding.md R131 to R157). In a constructor's name an M
stands before an operand in parentheses (`ldAMBc` is `LD A,(BC)`), `Ixd` and `Iyd` are `(IX+d)` and `(IY+d)`, and `Ixh`,
`Iyh`, `Xh` are index halves. An undocumented duplicate keeps the field that tells it from its siblings, so no bit of an
encoding is lost. -/

namespace Sys2Proof

/-- The instructions. Displacements `d` and offsets `e` are the encoded byte, read as two's complement where they are
used (R142, R143). -/
inductive Instr where
  -- the base table (R133 to R136)
  /-- `NOP`, 00000000 (R325). -/
  | nop
  /-- `EX AF,AF'`, 00001000 (R261). -/
  | exAfAf
  /-- `DJNZ e`, 00010000 eeeeeeee (R446). -/
  | djnz (e : Byte)
  /-- `JR e`, 00011000 eeeeeeee (R442). -/
  | jr (e : Byte)
  /-- `JR cc,e`, 001cc000 eeeeeeee (R443). -/
  | jrCc (cc : JrCond) (e : Byte)
  /-- `LD rr,nn`, 00pp0001 lo hi (R230). -/
  | ldRrNn (p : RegPair) (nn : Word)
  /-- `ADD HL,rr`, 00pp1001 (R350). -/
  | addHlRr (p : RegPair)
  /-- `LD (BC),A`, 00000010 (R211). -/
  | ldMBcA
  /-- `LD (DE),A`, 00010010 (R212). -/
  | ldMDeA
  /-- `LD (nn),HL`, 00100010 lo hi (R235). -/
  | ldMNnHl (nn : Word)
  /-- `LD (nn),A`, 00110010 lo hi (R213). -/
  | ldMNnA (nn : Word)
  /-- `LD A,(BC)`, 00001010 (R208). -/
  | ldAMBc
  /-- `LD A,(DE)`, 00011010 (R209). -/
  | ldAMDe
  /-- `LD HL,(nn)`, 00101010 lo hi (R232). -/
  | ldHlMNn (nn : Word)
  /-- `LD A,(nn)`, 00111010 lo hi (R210). -/
  | ldAMNn (nn : Word)
  /-- `INC rr`, 00pp0011 (R354). -/
  | incRr (p : RegPair)
  /-- `DEC rr`, 00pp1011 (R356). -/
  | decRr (p : RegPair)
  /-- `INC r`, 00yyy100 (R300). -/
  | incR (r : Reg8)
  /-- `INC (HL)`, 00110100 (R301). -/
  | incMHl
  /-- `DEC r`, 00yyy101 (R304). -/
  | decR (r : Reg8)
  /-- `DEC (HL)`, 00110101 (R305). -/
  | decMHl
  /-- `LD r,n`, 00yyy110 nnnnnnnn (R201). -/
  | ldRN (r : Reg8) (n : Byte)
  /-- `LD (HL),n`, 00110110 nnnnnnnn (R204). -/
  | ldMHlN (n : Byte)
  /-- `RLCA`, 00000111 (R380). -/
  | rlca
  /-- `RRCA`, 00001111 (R381). -/
  | rrca
  /-- `RLA`, 00010111 (R382). -/
  | rla
  /-- `RRA`, 00011111 (R383). -/
  | rra
  /-- `DAA`, 00100111 (R320). -/
  | daa
  /-- `CPL`, 00101111 (R321). -/
  | cpl
  /-- `SCF`, 00110111 (R324). -/
  | scf
  /-- `CCF`, 00111111 (R323). -/
  | ccf
  /-- `LD r,r'`, 01yyyzzz (R200). -/
  | ldRR (t : Reg8) (r : Reg8)
  /-- `LD r,(HL)`, 01yyy110 (R202). -/
  | ldRMHl (r : Reg8)
  /-- `LD (HL),r`, 01110zzz (R203). -/
  | ldMHlR (r : Reg8)
  /-- `HALT`, 01110110 (R326). -/
  | halt
  /-- `ADD A,r`, 10000zzz (R291). -/
  | addAR (r : Reg8)
  /-- `ADD A,(HL)`, 10000110 (R291). -/
  | addAMHl
  /-- `ADD A,n`, 11000110 nnnnnnnn (R291). -/
  | addAN (n : Byte)
  /-- `ADC A,r`, 10001zzz (R292). -/
  | adcAR (r : Reg8)
  /-- `ADC A,(HL)`, 10001110 (R292). -/
  | adcAMHl
  /-- `ADC A,n`, 11001110 nnnnnnnn (R292). -/
  | adcAN (n : Byte)
  /-- `SUB r`, 10010zzz (R293). -/
  | subR (r : Reg8)
  /-- `SUB (HL)`, 10010110 (R293). -/
  | subMHl
  /-- `SUB n`, 11010110 nnnnnnnn (R293). -/
  | subN (n : Byte)
  /-- `SBC A,r`, 10011zzz (R294). -/
  | sbcAR (r : Reg8)
  /-- `SBC A,(HL)`, 10011110 (R294). -/
  | sbcAMHl
  /-- `SBC A,n`, 11011110 nnnnnnnn (R294). -/
  | sbcAN (n : Byte)
  /-- `AND r`, 10100zzz (R295). -/
  | andR (r : Reg8)
  /-- `AND (HL)`, 10100110 (R295). -/
  | andMHl
  /-- `AND n`, 11100110 nnnnnnnn (R295). -/
  | andN (n : Byte)
  /-- `XOR r`, 10101zzz (R296). -/
  | xorR (r : Reg8)
  /-- `XOR (HL)`, 10101110 (R296). -/
  | xorMHl
  /-- `XOR n`, 11101110 nnnnnnnn (R296). -/
  | xorN (n : Byte)
  /-- `OR r`, 10110zzz (R297). -/
  | orR (r : Reg8)
  /-- `OR (HL)`, 10110110 (R297). -/
  | orMHl
  /-- `OR n`, 11110110 nnnnnnnn (R297). -/
  | orN (n : Byte)
  /-- `CP r`, 10111zzz (R298). -/
  | cpR (r : Reg8)
  /-- `CP (HL)`, 10111110 (R298). -/
  | cpMHl
  /-- `CP n`, 11111110 nnnnnnnn (R298). -/
  | cpN (n : Byte)
  /-- `RET cc`, 11ccc000 (R450). -/
  | retCc (cc : Cond)
  /-- `POP qq`, 11pp0001 (R242). -/
  | popQq (q : StackPair)
  /-- `RET`, 11001001 (R449). -/
  | ret
  /-- `EXX`, 11011001 (R262). -/
  | exx
  /-- `JP (HL)`, 11101001 (R444). -/
  | jpMHl
  /-- `LD SP,HL`, 11111001 (R238). -/
  | ldSpHl
  /-- `JP cc,nn`, 11ccc010 lo hi (R441). -/
  | jpCcNn (cc : Cond) (nn : Word)
  /-- `JP nn`, 11000011 lo hi (R440). -/
  | jpNn (nn : Word)
  /-- `OUT (n),A`, 11010011 nnnnnnnn (R487). -/
  | outMNA (n : Byte)
  /-- `IN A,(n)`, 11011011 nnnnnnnn (R480). -/
  | inAMN (n : Byte)
  /-- `EX (SP),HL`, 11100011 (R263). -/
  | exMSpHl
  /-- `EX DE,HL`, 11101011 (R260). -/
  | exDeHl
  /-- `DI`, 11110011 (R327). -/
  | di
  /-- `EI`, 11111011 (R328). -/
  | ei
  /-- `CALL cc,nn`, 11ccc100 lo hi (R448). -/
  | callCcNn (cc : Cond) (nn : Word)
  /-- `PUSH qq`, 11pp0101 (R240). -/
  | pushQq (q : StackPair)
  /-- `CALL nn`, 11001101 lo hi (R447). -/
  | callNn (nn : Word)
  /-- `RST p`, 11ppp111 (R453). -/
  | rstP (y : BitVec 3)
  -- the CB table (R137)
  /-- `RLC r`, 11001011 00000zzz (R384). -/
  | rlcR (r : Reg8)
  /-- `RLC (HL)`, 11001011 00000110 (R384). -/
  | rlcMHl
  /-- `RRC r`, 11001011 00001zzz (R385). -/
  | rrcR (r : Reg8)
  /-- `RRC (HL)`, 11001011 00001110 (R385). -/
  | rrcMHl
  /-- `RL r`, 11001011 00010zzz (R386). -/
  | rlR (r : Reg8)
  /-- `RL (HL)`, 11001011 00010110 (R386). -/
  | rlMHl
  /-- `RR r`, 11001011 00011zzz (R387). -/
  | rrR (r : Reg8)
  /-- `RR (HL)`, 11001011 00011110 (R387). -/
  | rrMHl
  /-- `SLA r`, 11001011 00100zzz (R388). -/
  | slaR (r : Reg8)
  /-- `SLA (HL)`, 11001011 00100110 (R388). -/
  | slaMHl
  /-- `SRA r`, 11001011 00101zzz (R389). -/
  | sraR (r : Reg8)
  /-- `SRA (HL)`, 11001011 00101110 (R389). -/
  | sraMHl
  /-- `SLL r`, 11001011 00110zzz (R390). -/
  | sllR (r : Reg8)
  /-- `SLL (HL)`, 11001011 00110110 (R390). -/
  | sllMHl
  /-- `SRL r`, 11001011 00111zzz (R391). -/
  | srlR (r : Reg8)
  /-- `SRL (HL)`, 11001011 00111110 (R391). -/
  | srlMHl
  /-- `BIT b,r`, 11001011 01bbbzzz (R410). -/
  | bitBR (b : BitVec 3) (r : Reg8)
  /-- `BIT b,(HL)`, 11001011 01bbb110 (R411). -/
  | bitBMHl (b : BitVec 3)
  /-- `RES b,r`, 11001011 10bbbzzz (R412). -/
  | resBR (b : BitVec 3) (r : Reg8)
  /-- `RES b,(HL)`, 11001011 10bbb110 (R412). -/
  | resBMHl (b : BitVec 3)
  /-- `SET b,r`, 11001011 11bbbzzz (R414). -/
  | setBR (b : BitVec 3) (r : Reg8)
  /-- `SET b,(HL)`, 11001011 11bbb110 (R414). -/
  | setBMHl (b : BitVec 3)
  -- the ED table (R138, R139, R154)
  /-- `IN r,(C)`, 11101101 01yyy000 (R481). -/
  | inRMC (r : Reg8)
  /-- `IN F,(C)`, 11101101 01110000 (R482). -/
  | inFMC
  /-- `OUT (C),r`, 11101101 01yyy001 (R488). -/
  | outMCR (r : Reg8)
  /-- `OUT (C),0`, 11101101 01110001 (R489). -/
  | outMC0
  /-- `SBC HL,rr`, 11101101 01pp0010 (R352). -/
  | sbcHlRr (p : RegPair)
  /-- `ADC HL,rr`, 11101101 01pp1010 (R351). -/
  | adcHlRr (p : RegPair)
  /-- `LD (nn),rr`, 11101101 01pp0011 lo hi (R236). -/
  | ldMNnRr (p : RegPair) (nn : Word)
  /-- `LD rr,(nn)`, 11101101 01pp1011 lo hi (R233). -/
  | ldRrMNn (p : RegPair) (nn : Word)
  /-- `NEG`, 11101101 01yyy100 (R322). -/
  | neg (y : BitVec 3)
  /-- `RETI`, 11101101 01001101 (R451). -/
  | reti
  /-- `RETN`, 11101101 01yyy101 (R452). -/
  | retn (y : BitVec 3)
  /-- `IM 0`, 11101101 01yyy110 (R330). -/
  | im0 (y : BitVec 3)
  /-- `IM 1`, 11101101 01yyy110 (R331). -/
  | im1 (y : BitVec 3)
  /-- `IM 2`, 11101101 01yyy110 (R332). -/
  | im2 (y : BitVec 3)
  /-- `LD I,A`, 11101101 01000111 (R216). -/
  | ldIA
  /-- `LD R,A`, 11101101 01001111 (R217). -/
  | ldRA
  /-- `LD A,I`, 11101101 01010111 (R214). -/
  | ldAI
  /-- `LD A,R`, 11101101 01011111 (R215). -/
  | ldAR
  /-- `RRD`, 11101101 01100111 (R395). -/
  | rrd
  /-- `RLD`, 11101101 01101111 (R394). -/
  | rld
  /-- `LDI`, 11101101 10100000 (R265). -/
  | ldi
  /-- `CPI`, 11101101 10100001 (R267). -/
  | cpi
  /-- `INI`, 11101101 10100010 (R483). -/
  | ini
  /-- `OUTI`, 11101101 10100011 (R490). -/
  | outi
  /-- `LDD`, 11101101 10101000 (R266). -/
  | ldd
  /-- `CPD`, 11101101 10101001 (R268). -/
  | cpd
  /-- `IND`, 11101101 10101010 (R485). -/
  | ind
  /-- `OUTD`, 11101101 10101011 (R492). -/
  | outd
  /-- `LDIR`, 11101101 10110000 (R271). -/
  | ldir
  /-- `CPIR`, 11101101 10110001 (R273). -/
  | cpir
  /-- `INIR`, 11101101 10110010 (R484). -/
  | inir
  /-- `OTIR`, 11101101 10110011 (R491). -/
  | otir
  /-- `LDDR`, 11101101 10111000 (R272). -/
  | lddr
  /-- `CPDR`, 11101101 10111001 (R274). -/
  | cpdr
  /-- `INDR`, 11101101 10111010 (R486). -/
  | indr
  /-- `OTDR`, 11101101 10111011 (R493). -/
  | otdr
  /-- `NOP*`, 11101101 oooooooo (R333). -/
  | nopStar (op : Byte)
  -- the DD table and the DD CB table (R150 to R153)
  /-- `LD IX,nn`, 11011101 00100001 lo hi (R231). -/
  | ldIxNn (nn : Word)
  /-- `LD (nn),IX`, 11011101 00100010 lo hi (R237). -/
  | ldMNnIx (nn : Word)
  /-- `LD IX,(nn)`, 11011101 00101010 lo hi (R234). -/
  | ldIxMNn (nn : Word)
  /-- `ADD IX,rr`, 11011101 00pp1001 (R353). -/
  | addIxRr (p : IdxPair)
  /-- `INC IX`, 11011101 00100011 (R355). -/
  | incIx
  /-- `DEC IX`, 11011101 00101011 (R357). -/
  | decIx
  /-- `INC IXh`, 11011101 0010z100 (R303). -/
  | incIxh (h : Half)
  /-- `DEC IXh`, 11011101 0010z101 (R307). -/
  | decIxh (h : Half)
  /-- `LD IXh,n`, 11011101 0010z110 nnnnnnnn (R219). -/
  | ldIxhN (h : Half) (n : Byte)
  /-- `INC (IX+d)`, 11011101 00110100 dddddddd (R302). -/
  | incMIxd (d : Byte)
  /-- `DEC (IX+d)`, 11011101 00110101 dddddddd (R306). -/
  | decMIxd (d : Byte)
  /-- `LD (IX+d),n`, 11011101 00110110 dddddddd nnnnnnnn (R207). -/
  | ldMIxdN (d : Byte) (n : Byte)
  /-- `LD r,IXh/LD IXh,r`, 11011101 01yyyzzz (R218). -/
  | ldRIxh (t : HReg) (r : HReg)
  /-- `LD r,(IX+d)`, 11011101 01yyy110 dddddddd (R205). -/
  | ldRMIxd (r : Reg8) (d : Byte)
  /-- `LD (IX+d),r`, 11011101 01110zzz dddddddd (R206). -/
  | ldMIxdR (d : Byte) (r : Reg8)
  /-- `POP IX`, 11011101 11100001 (R243). -/
  | popIx
  /-- `EX (SP),IX`, 11011101 11100011 (R264). -/
  | exMSpIx
  /-- `PUSH IX`, 11011101 11100101 (R241). -/
  | pushIx
  /-- `JP (IX)`, 11011101 11101001 (R445). -/
  | jpMIx
  /-- `LD SP,IX`, 11011101 11111001 (R239). -/
  | ldSpIx
  /-- `ADD A,(IX+d)`, 11011101 10000110 dddddddd (R291). -/
  | addAMIxd (d : Byte)
  /-- `ADC A,(IX+d)`, 11011101 10001110 dddddddd (R292). -/
  | adcAMIxd (d : Byte)
  /-- `SUB (IX+d)`, 11011101 10010110 dddddddd (R293). -/
  | subMIxd (d : Byte)
  /-- `SBC A,(IX+d)`, 11011101 10011110 dddddddd (R294). -/
  | sbcAMIxd (d : Byte)
  /-- `AND (IX+d)`, 11011101 10100110 dddddddd (R295). -/
  | andMIxd (d : Byte)
  /-- `XOR (IX+d)`, 11011101 10101110 dddddddd (R296). -/
  | xorMIxd (d : Byte)
  /-- `OR (IX+d)`, 11011101 10110110 dddddddd (R297). -/
  | orMIxd (d : Byte)
  /-- `CP (IX+d)`, 11011101 10111110 dddddddd (R298). -/
  | cpMIxd (d : Byte)
  /-- `DD (redundant)`, 11011101 ffffffff (R334). -/
  | ddRedundant (f : PrefixByte)
  /-- `DD escape`, 11011101 oooooooo … (R151). -/
  | ddEscape (i : Instr)
  /-- `RLC (IX+d)`, 11011101 11001011 dddddddd 00000110 (R392). -/
  | rlcMIxd (d : Byte)
  /-- `RRC (IX+d)`, 11011101 11001011 dddddddd 00001110 (R392). -/
  | rrcMIxd (d : Byte)
  /-- `RL (IX+d)`, 11011101 11001011 dddddddd 00010110 (R392). -/
  | rlMIxd (d : Byte)
  /-- `RR (IX+d)`, 11011101 11001011 dddddddd 00011110 (R392). -/
  | rrMIxd (d : Byte)
  /-- `SLA (IX+d)`, 11011101 11001011 dddddddd 00100110 (R392). -/
  | slaMIxd (d : Byte)
  /-- `SRA (IX+d)`, 11011101 11001011 dddddddd 00101110 (R392). -/
  | sraMIxd (d : Byte)
  /-- `SLL (IX+d)`, 11011101 11001011 dddddddd 00110110 (R392). -/
  | sllMIxd (d : Byte)
  /-- `SRL (IX+d)`, 11011101 11001011 dddddddd 00111110 (R392). -/
  | srlMIxd (d : Byte)
  /-- `rot (IX+d),r`, 11011101 11001011 dddddddd 00yyyzzz (R393). -/
  | rotMIxdR (o : Rot) (d : Byte) (r : Reg8)
  /-- `BIT b,(IX+d)`, 11011101 11001011 dddddddd 01bbbzzz (R413). -/
  | bitBMIxd (b : BitVec 3) (d : Byte) (z : BitVec 3)
  /-- `RES b,(IX+d)`, 11011101 11001011 dddddddd 10bbb110 (R415). -/
  | resBMIxd (b : BitVec 3) (d : Byte)
  /-- `SET b,(IX+d)`, 11011101 11001011 dddddddd 11bbb110 (R417). -/
  | setBMIxd (b : BitVec 3) (d : Byte)
  /-- `RES b,(IX+d),r`, 11011101 11001011 dddddddd 10bbbzzz (R418). -/
  | resBMIxdR (b : BitVec 3) (d : Byte) (r : Reg8)
  /-- `SET b,(IX+d),r`, 11011101 11001011 dddddddd 11bbbzzz (R418). -/
  | setBMIxdR (b : BitVec 3) (d : Byte) (r : Reg8)
  -- the FD table and the FD CB table (R150 to R153)
  /-- `LD IY,nn`, 11111101 00100001 lo hi (R231). -/
  | ldIyNn (nn : Word)
  /-- `LD (nn),IY`, 11111101 00100010 lo hi (R237). -/
  | ldMNnIy (nn : Word)
  /-- `LD IY,(nn)`, 11111101 00101010 lo hi (R234). -/
  | ldIyMNn (nn : Word)
  /-- `ADD IY,rr`, 11111101 00pp1001 (R353). -/
  | addIyRr (p : IdxPair)
  /-- `INC IY`, 11111101 00100011 (R355). -/
  | incIy
  /-- `DEC IY`, 11111101 00101011 (R357). -/
  | decIy
  /-- `INC IYh`, 11111101 0010z100 (R303). -/
  | incIyh (h : Half)
  /-- `DEC IYh`, 11111101 0010z101 (R307). -/
  | decIyh (h : Half)
  /-- `LD IYh,n`, 11111101 0010z110 nnnnnnnn (R219). -/
  | ldIyhN (h : Half) (n : Byte)
  /-- `INC (IY+d)`, 11111101 00110100 dddddddd (R302). -/
  | incMIyd (d : Byte)
  /-- `DEC (IY+d)`, 11111101 00110101 dddddddd (R306). -/
  | decMIyd (d : Byte)
  /-- `LD (IY+d),n`, 11111101 00110110 dddddddd nnnnnnnn (R207). -/
  | ldMIydN (d : Byte) (n : Byte)
  /-- `LD r,IYh/LD IYh,r`, 11111101 01yyyzzz (R218). -/
  | ldRIyh (t : HReg) (r : HReg)
  /-- `LD r,(IY+d)`, 11111101 01yyy110 dddddddd (R205). -/
  | ldRMIyd (r : Reg8) (d : Byte)
  /-- `LD (IY+d),r`, 11111101 01110zzz dddddddd (R206). -/
  | ldMIydR (d : Byte) (r : Reg8)
  /-- `POP IY`, 11111101 11100001 (R243). -/
  | popIy
  /-- `EX (SP),IY`, 11111101 11100011 (R264). -/
  | exMSpIy
  /-- `PUSH IY`, 11111101 11100101 (R241). -/
  | pushIy
  /-- `JP (IY)`, 11111101 11101001 (R445). -/
  | jpMIy
  /-- `LD SP,IY`, 11111101 11111001 (R239). -/
  | ldSpIy
  /-- `ADD A,(IY+d)`, 11111101 10000110 dddddddd (R291). -/
  | addAMIyd (d : Byte)
  /-- `ADC A,(IY+d)`, 11111101 10001110 dddddddd (R292). -/
  | adcAMIyd (d : Byte)
  /-- `SUB (IY+d)`, 11111101 10010110 dddddddd (R293). -/
  | subMIyd (d : Byte)
  /-- `SBC A,(IY+d)`, 11111101 10011110 dddddddd (R294). -/
  | sbcAMIyd (d : Byte)
  /-- `AND (IY+d)`, 11111101 10100110 dddddddd (R295). -/
  | andMIyd (d : Byte)
  /-- `XOR (IY+d)`, 11111101 10101110 dddddddd (R296). -/
  | xorMIyd (d : Byte)
  /-- `OR (IY+d)`, 11111101 10110110 dddddddd (R297). -/
  | orMIyd (d : Byte)
  /-- `CP (IY+d)`, 11111101 10111110 dddddddd (R298). -/
  | cpMIyd (d : Byte)
  /-- `FD (redundant)`, 11111101 ffffffff (R334). -/
  | fdRedundant (f : PrefixByte)
  /-- `FD escape`, 11111101 oooooooo … (R151). -/
  | fdEscape (i : Instr)
  /-- `RLC (IY+d)`, 11111101 11001011 dddddddd 00000110 (R392). -/
  | rlcMIyd (d : Byte)
  /-- `RRC (IY+d)`, 11111101 11001011 dddddddd 00001110 (R392). -/
  | rrcMIyd (d : Byte)
  /-- `RL (IY+d)`, 11111101 11001011 dddddddd 00010110 (R392). -/
  | rlMIyd (d : Byte)
  /-- `RR (IY+d)`, 11111101 11001011 dddddddd 00011110 (R392). -/
  | rrMIyd (d : Byte)
  /-- `SLA (IY+d)`, 11111101 11001011 dddddddd 00100110 (R392). -/
  | slaMIyd (d : Byte)
  /-- `SRA (IY+d)`, 11111101 11001011 dddddddd 00101110 (R392). -/
  | sraMIyd (d : Byte)
  /-- `SLL (IY+d)`, 11111101 11001011 dddddddd 00110110 (R392). -/
  | sllMIyd (d : Byte)
  /-- `SRL (IY+d)`, 11111101 11001011 dddddddd 00111110 (R392). -/
  | srlMIyd (d : Byte)
  /-- `rot (IY+d),r`, 11111101 11001011 dddddddd 00yyyzzz (R393). -/
  | rotMIydR (o : Rot) (d : Byte) (r : Reg8)
  /-- `BIT b,(IY+d)`, 11111101 11001011 dddddddd 01bbbzzz (R413). -/
  | bitBMIyd (b : BitVec 3) (d : Byte) (z : BitVec 3)
  /-- `RES b,(IY+d)`, 11111101 11001011 dddddddd 10bbb110 (R415). -/
  | resBMIyd (b : BitVec 3) (d : Byte)
  /-- `SET b,(IY+d)`, 11111101 11001011 dddddddd 11bbb110 (R417). -/
  | setBMIyd (b : BitVec 3) (d : Byte)
  /-- `RES b,(IY+d),r`, 11111101 11001011 dddddddd 10bbbzzz (R418). -/
  | resBMIydR (b : BitVec 3) (d : Byte) (r : Reg8)
  /-- `SET b,(IY+d),r`, 11111101 11001011 dddddddd 11bbbzzz (R418). -/
  | setBMIydR (b : BitVec 3) (d : Byte) (r : Reg8)
  -- the index-half operands of the ALU, for both prefixes (R290)
  /-- `ADD A,IXh/IYh`, 11i11101 10000zzz (R291). -/
  | addAXh (x : IdxReg) (h : Half)
  /-- `ADC A,IXh/IYh`, 11i11101 10001zzz (R292). -/
  | adcAXh (x : IdxReg) (h : Half)
  /-- `SUB IXh/IYh`, 11i11101 10010zzz (R293). -/
  | subXh (x : IdxReg) (h : Half)
  /-- `SBC A,IXh/IYh`, 11i11101 10011zzz (R294). -/
  | sbcAXh (x : IdxReg) (h : Half)
  /-- `AND IXh/IYh`, 11i11101 10100zzz (R295). -/
  | andXh (x : IdxReg) (h : Half)
  /-- `XOR IXh/IYh`, 11i11101 10101zzz (R296). -/
  | xorXh (x : IdxReg) (h : Half)
  /-- `OR IXh/IYh`, 11i11101 10110zzz (R297). -/
  | orXh (x : IdxReg) (h : Half)
  /-- `CP IXh/IYh`, 11i11101 10111zzz (R298). -/
  | cpXh (x : IdxReg) (h : Half)
deriving DecidableEq, Repr

end Sys2Proof
end

