-- ==== Sys2Proof/WellFormed.lean ====
section
/-! DEFINITION. Which instruction terms have an encoding: the constraints of spec/opcode_table.json's rows
(spec/30_encoding.md R138, R150, R151, R154, R157). -/

namespace Sys2Proof

/-- The register is not H or L, so an index prefix leaves it alone (R150 item 3). -/
def Reg8.plain : Reg8 → Bool
  | .h => false
  | .l => false
  | .b => true
  | .c => true
  | .d => true
  | .e => true
  | .a => true

/-- The ED codes that no ED row but `NOP*` matches (R154, the list of R333). -/
def edUnassigned (op : Byte) : Bool :=
  let n := op.toNat
  n < 0x40 || n == 0x77 || n == 0x7F || (0x80 ≤ n && n < 0xA0) || (0xA4 ≤ n && n < 0xA8) ||
    (0xAC ≤ n && n < 0xB0) || (0xB4 ≤ n && n < 0xB8) || 0xBC ≤ n

/-- A base instruction that an index prefix does not change (R151): it uses neither HL, H, L nor (HL), or it is
EX DE,HL or EXX (R150 item 4). -/
def Instr.escapable : Instr → Bool
  | .ldRrNn p _ => p != .hl
  | .incRr p => p != .hl
  | .decRr p => p != .hl
  | .incR r => r.plain
  | .decR r => r.plain
  | .ldRN r _ => r.plain
  | .ldRR t r => t.plain && r.plain
  | .addAR r => r.plain
  | .adcAR r => r.plain
  | .subR r => r.plain
  | .sbcAR r => r.plain
  | .andR r => r.plain
  | .xorR r => r.plain
  | .orR r => r.plain
  | .cpR r => r.plain
  | .popQq q => q != .hl
  | .pushQq q => q != .hl
  -- not changed by an index prefix
  | .nop | .exAfAf | .djnz _ | .jr _ | .jrCc _ _ | .ldMBcA | .ldMDeA | .ldMNnA _ | .ldAMBc | .ldAMDe | .ldAMNn _
  | .rlca | .rrca | .rla | .rra | .daa | .cpl | .scf | .ccf | .halt | .addAN _ | .adcAN _ | .subN _ | .sbcAN _
  | .andN _ | .xorN _ | .orN _ | .cpN _ | .retCc _ | .ret | .exx | .jpCcNn _ _ | .jpNn _ | .outMNA _ | .inAMN _
  | .exDeHl | .di | .ei | .callCcNn _ _ | .callNn _ | .rstP _ => true
  -- HL or (HL) operands: the prefix changes them
  | .addHlRr _ | .ldMNnHl _ | .ldHlMNn _ | .incMHl | .decMHl | .ldMHlN _ | .ldRMHl _ | .ldMHlR _ | .addAMHl
  | .adcAMHl | .subMHl | .sbcAMHl | .andMHl | .xorMHl | .orMHl | .cpMHl | .jpMHl | .ldSpHl | .exMSpHl => false
  -- not base instructions
  | .rlcR _ | .rlcMHl | .rrcR _ | .rrcMHl | .rlR _ | .rlMHl | .rrR _ | .rrMHl | .slaR _ | .slaMHl | .sraR _
  | .sraMHl | .sllR _ | .sllMHl | .srlR _ | .srlMHl | .bitBR _ _ | .bitBMHl _ | .resBR _ _ | .resBMHl _ | .setBR _ _
  | .setBMHl _ | .inRMC _ | .inFMC | .outMCR _ | .outMC0 | .sbcHlRr _ | .adcHlRr _ | .ldMNnRr _ _ | .ldRrMNn _ _
  | .neg _ | .reti | .retn _ | .im0 _ | .im1 _ | .im2 _ | .ldIA | .ldRA | .ldAI | .ldAR | .rrd | .rld | .ldi | .cpi
  | .ini | .outi | .ldd | .cpd | .ind | .outd | .ldir | .cpir | .inir | .otir | .lddr | .cpdr | .indr | .otdr
  | .nopStar _ | .ldIxNn _ | .ldMNnIx _ | .ldIxMNn _ | .addIxRr _ | .incIx | .decIx | .incIxh _ | .decIxh _
  | .ldIxhN _ _ | .incMIxd _ | .decMIxd _ | .ldMIxdN _ _ | .ldRIxh _ _ | .ldRMIxd _ _ | .ldMIxdR _ _ | .popIx
  | .exMSpIx | .pushIx | .jpMIx | .ldSpIx | .addAMIxd _ | .adcAMIxd _ | .subMIxd _ | .sbcAMIxd _ | .andMIxd _
  | .xorMIxd _ | .orMIxd _ | .cpMIxd _ | .ddRedundant _ | .ddEscape _ | .rlcMIxd _ | .rrcMIxd _ | .rlMIxd _
  | .rrMIxd _ | .slaMIxd _ | .sraMIxd _ | .sllMIxd _ | .srlMIxd _ | .rotMIxdR _ _ _ | .bitBMIxd _ _ _
  | .resBMIxd _ _ | .setBMIxd _ _ | .resBMIxdR _ _ _ | .setBMIxdR _ _ _ | .ldIyNn _ | .ldMNnIy _ | .ldIyMNn _
  | .addIyRr _ | .incIy | .decIy | .incIyh _ | .decIyh _ | .ldIyhN _ _ | .incMIyd _ | .decMIyd _ | .ldMIydN _ _
  | .ldRIyh _ _ | .ldRMIyd _ _ | .ldMIydR _ _ | .popIy | .exMSpIy | .pushIy | .jpMIy | .ldSpIy | .addAMIyd _
  | .adcAMIyd _ | .subMIyd _ | .sbcAMIyd _ | .andMIyd _ | .xorMIyd _ | .orMIyd _ | .cpMIyd _ | .fdRedundant _
  | .fdEscape _ | .rlcMIyd _ | .rrcMIyd _ | .rlMIyd _ | .rrMIyd _ | .slaMIyd _ | .sraMIyd _ | .sllMIyd _
  | .srlMIyd _ | .rotMIydR _ _ _ | .bitBMIyd _ _ _ | .resBMIyd _ _ | .setBMIyd _ _ | .resBMIydR _ _ _
  | .setBMIydR _ _ _ | .addAXh _ _ | .adcAXh _ _ | .subXh _ _ | .sbcAXh _ _ | .andXh _ _ | .xorXh _ _ | .orXh _ _
  | .cpXh _ _ => false

/-- The term has an encoding: every constraint of its opcode-table row holds (R157). -/
def Instr.wellFormed : Instr → Bool
  | .retn y => y != 1
  | .im0 y => y == 0 || y == 1 || y == 4 || y == 5
  | .im1 y => y == 2 || y == 6
  | .im2 y => y == 3 || y == 7
  | .nopStar op => edUnassigned op
  | .ldRIxh t r => t.isHalf || r.isHalf
  | .ldRIyh t r => t.isHalf || r.isHalf
  | .ddEscape i => i.escapable
  | .fdEscape i => i.escapable
  | .nop | .exAfAf | .djnz _ | .jr _ | .jrCc _ _ | .ldRrNn _ _ | .addHlRr _ | .ldMBcA | .ldMDeA | .ldMNnHl _
  | .ldMNnA _ | .ldAMBc | .ldAMDe | .ldHlMNn _ | .ldAMNn _ | .incRr _ | .decRr _ | .incR _ | .incMHl | .decR _
  | .decMHl | .ldRN _ _ | .ldMHlN _ | .rlca | .rrca | .rla | .rra | .daa | .cpl | .scf | .ccf | .ldRR _ _
  | .ldRMHl _ | .ldMHlR _ | .halt | .addAR _ | .addAMHl | .addAN _ | .adcAR _ | .adcAMHl | .adcAN _ | .subR _
  | .subMHl | .subN _ | .sbcAR _ | .sbcAMHl | .sbcAN _ | .andR _ | .andMHl | .andN _ | .xorR _ | .xorMHl | .xorN _
  | .orR _ | .orMHl | .orN _ | .cpR _ | .cpMHl | .cpN _ | .retCc _ | .popQq _ | .ret | .exx | .jpMHl | .ldSpHl
  | .jpCcNn _ _ | .jpNn _ | .outMNA _ | .inAMN _ | .exMSpHl | .exDeHl | .di | .ei | .callCcNn _ _ | .pushQq _
  | .callNn _ | .rstP _ | .rlcR _ | .rlcMHl | .rrcR _ | .rrcMHl | .rlR _ | .rlMHl | .rrR _ | .rrMHl | .slaR _
  | .slaMHl | .sraR _ | .sraMHl | .sllR _ | .sllMHl | .srlR _ | .srlMHl | .bitBR _ _ | .bitBMHl _ | .resBR _ _
  | .resBMHl _ | .setBR _ _ | .setBMHl _ | .inRMC _ | .inFMC | .outMCR _ | .outMC0 | .sbcHlRr _ | .adcHlRr _
  | .ldMNnRr _ _ | .ldRrMNn _ _ | .neg _ | .reti | .ldIA | .ldRA | .ldAI | .ldAR | .rrd | .rld | .ldi | .cpi | .ini
  | .outi | .ldd | .cpd | .ind | .outd | .ldir | .cpir | .inir | .otir | .lddr | .cpdr | .indr | .otdr | .ldIxNn _
  | .ldMNnIx _ | .ldIxMNn _ | .addIxRr _ | .incIx | .decIx | .incIxh _ | .decIxh _ | .ldIxhN _ _ | .incMIxd _
  | .decMIxd _ | .ldMIxdN _ _ | .ldRMIxd _ _ | .ldMIxdR _ _ | .popIx | .exMSpIx | .pushIx | .jpMIx | .ldSpIx
  | .addAMIxd _ | .adcAMIxd _ | .subMIxd _ | .sbcAMIxd _ | .andMIxd _ | .xorMIxd _ | .orMIxd _ | .cpMIxd _
  | .ddRedundant _ | .rlcMIxd _ | .rrcMIxd _ | .rlMIxd _ | .rrMIxd _ | .slaMIxd _ | .sraMIxd _ | .sllMIxd _
  | .srlMIxd _ | .rotMIxdR _ _ _ | .bitBMIxd _ _ _ | .resBMIxd _ _ | .setBMIxd _ _ | .resBMIxdR _ _ _
  | .setBMIxdR _ _ _ | .ldIyNn _ | .ldMNnIy _ | .ldIyMNn _ | .addIyRr _ | .incIy | .decIy | .incIyh _ | .decIyh _
  | .ldIyhN _ _ | .incMIyd _ | .decMIyd _ | .ldMIydN _ _ | .ldRMIyd _ _ | .ldMIydR _ _ | .popIy | .exMSpIy | .pushIy
  | .jpMIy | .ldSpIy | .addAMIyd _ | .adcAMIyd _ | .subMIyd _ | .sbcAMIyd _ | .andMIyd _ | .xorMIyd _ | .orMIyd _
  | .cpMIyd _ | .fdRedundant _ | .rlcMIyd _ | .rrcMIyd _ | .rlMIyd _ | .rrMIyd _ | .slaMIyd _ | .sraMIyd _
  | .sllMIyd _ | .srlMIyd _ | .rotMIydR _ _ _ | .bitBMIyd _ _ _ | .resBMIyd _ _ | .setBMIyd _ _ | .resBMIydR _ _ _
  | .setBMIydR _ _ _ | .addAXh _ _ | .adcAXh _ _ | .subXh _ _ | .sbcAXh _ _ | .andXh _ _ | .xorXh _ _ | .orXh _ _
  | .cpXh _ _ => true

end Sys2Proof
end

