-- ==== Sys2Proof/Decode.lean ====
section
/-! DEFINITION. The decoder (spec/30_encoding.md R130 to R157), total on any list of bytes and rejecting by name, and
after it the encoder, written from the same encoding tables. Every byte sequence that is long enough decodes (R155): the
only rejection a whole instruction can meet is that its bytes end too early. -/

namespace Sys2Proof

/-- Why a list of bytes is no instruction. Both are safe: a step never meets either (R155). -/
inductive DecodeError where
  /-- the bytes end before the instruction does -/
  | truncated
  /-- a prefix byte was given to the base table, which has no row for it (R157) -/
  | notInBaseTable
deriving DecidableEq, Repr

/-! ## Fields (R132) and field codes (R35, R38, R39) -/

/-- `x = op[7:6]` (R132). -/
def opX (op : Byte) : Nat := op.toNat / 64
/-- `y = op[5:3]` (R132). -/
def opY (op : Byte) : Nat := op.toNat / 8 % 8
/-- `z = op[2:0]` (R132). -/
def opZ (op : Byte) : Nat := op.toNat % 8
/-- `p = op[5:4]` (R132). -/
def opP (op : Byte) : Nat := op.toNat / 16 % 4
/-- `q = op[3]` (R132). -/
def opQ (op : Byte) : Nat := op.toNat / 8 % 2
/-- The `y` field as the bit number, the RST code or a duplicate's field (R144). -/
def opYBits (op : Byte) : BitVec 3 := op.extractLsb' 3 3
/-- The `z` field of a `BIT b,(XY+d)` duplicate (R413). -/
def opZBits (op : Byte) : BitVec 3 := op.extractLsb' 0 3

/-- The register of an 8-bit register code; none for code 6, the memory operand (R35). -/
def reg8? : Nat → Option Reg8
  | 0 => some .b
  | 1 => some .c
  | 2 => some .d
  | 3 => some .e
  | 4 => some .h
  | 5 => some .l
  | 7 => some .a
  | _ => none

/-- The register of an 8-bit register code under an index prefix; none for code 6 (R35, R218). -/
def hreg? : Nat → Option HReg
  | 0 => some .b
  | 1 => some .c
  | 2 => some .d
  | 3 => some .e
  | 4 => some .xh
  | 5 => some .xl
  | 7 => some .a
  | _ => none

/-- The `rp` table (R38). -/
def regPairOf : Nat → RegPair
  | 0 => .bc
  | 1 => .de
  | 2 => .hl
  | _ => .sp

/-- The `rp2` table (R38). -/
def stackPairOf : Nat → StackPair
  | 0 => .bc
  | 1 => .de
  | 2 => .hl
  | _ => .af

/-- The `rpx` table (R38). -/
def idxPairOf : Nat → IdxPair
  | 0 => .bc
  | 1 => .de
  | 2 => .xy
  | _ => .sp

/-- The condition table (R39). -/
def condOf : Nat → Cond
  | 0 => .nz
  | 1 => .z
  | 2 => .nc
  | 3 => .c
  | 4 => .po
  | 5 => .pe
  | 6 => .p
  | _ => .m

/-- The 2-bit condition of a conditional JR, `y - 4` (R143). -/
def jrCondOf : Nat → JrCond
  | 4 => .nz
  | 5 => .z
  | 6 => .nc
  | _ => .c

/-- The rotate table `rot[y]` (R137). -/
def rotOf : Nat → Rot
  | 0 => .rlc
  | 1 => .rrc
  | 2 => .rl
  | 3 => .rr
  | 4 => .sla
  | 5 => .sra
  | 6 => .sll
  | _ => .srl

/-- `r` and `s` where the prefix selects IX and IY (R131). -/
def IdxReg.sel {α : Type} (x : IdxReg) (r s : α) : α :=
  match x with
  | .ix => r
  | .iy => s

/-! ## Operand bytes (R140 to R143) -/

/-- The instruction that takes the next byte. -/
def arg1 (rest : List Byte) (k : Byte → Instr) : Except DecodeError Instr :=
  match rest with
  | n :: _ => .ok (k n)
  | [] => .error .truncated

/-- The instruction that takes the next two bytes. -/
def arg2 (rest : List Byte) (k : Byte → Byte → Instr) : Except DecodeError Instr :=
  match rest with
  | m :: n :: _ => .ok (k m n)
  | _ => .error .truncated

/-- The instruction that takes a 16-bit immediate, low byte first (R141). -/
def argW (rest : List Byte) (k : Word → Instr) : Except DecodeError Instr :=
  arg2 rest fun l h => k (Word.ofBytes h l)

/-! ## The decoder -/

/-- `alu[y] r` (R135). -/
def aluR (y : Nat) (r : Reg8) : Instr :=
  match y with
  | 0 => .addAR r
  | 1 => .adcAR r
  | 2 => .subR r
  | 3 => .sbcAR r
  | 4 => .andR r
  | 5 => .xorR r
  | 6 => .orR r
  | _ => .cpR r

/-- `alu[y] (HL)` (R135). -/
def aluMHl (y : Nat) : Instr :=
  match y with
  | 0 => .addAMHl
  | 1 => .adcAMHl
  | 2 => .subMHl
  | 3 => .sbcAMHl
  | 4 => .andMHl
  | 5 => .xorMHl
  | 6 => .orMHl
  | _ => .cpMHl

/-- `alu[y] n` (R136). -/
def aluN (y : Nat) (n : Byte) : Instr :=
  match y with
  | 0 => .addAN n
  | 1 => .adcAN n
  | 2 => .subN n
  | 3 => .sbcAN n
  | 4 => .andN n
  | 5 => .xorN n
  | 6 => .orN n
  | _ => .cpN n

/-- `alu[y] (XY+d)` (R290). -/
def aluMXd (x : IdxReg) (y : Nat) (d : Byte) : Instr :=
  match y with
  | 0 => x.sel (.addAMIxd d) (.addAMIyd d)
  | 1 => x.sel (.adcAMIxd d) (.adcAMIyd d)
  | 2 => x.sel (.subMIxd d) (.subMIyd d)
  | 3 => x.sel (.sbcAMIxd d) (.sbcAMIyd d)
  | 4 => x.sel (.andMIxd d) (.andMIyd d)
  | 5 => x.sel (.xorMIxd d) (.xorMIyd d)
  | 6 => x.sel (.orMIxd d) (.orMIyd d)
  | _ => x.sel (.cpMIxd d) (.cpMIyd d)

/-- `alu[y] XYH` or `alu[y] XYL` (R290). -/
def aluXh (x : IdxReg) (y : Nat) (h : Half) : Instr :=
  match y with
  | 0 => .addAXh x h
  | 1 => .adcAXh x h
  | 2 => .subXh x h
  | 3 => .sbcAXh x h
  | 4 => .andXh x h
  | 5 => .xorXh x h
  | 6 => .orXh x h
  | _ => .cpXh x h

/-- The base table, `x = 0` (R133). -/
def decodeBase0 (op : Byte) (rest : List Byte) : Except DecodeError Instr :=
  match opZ op with
  | 0 =>
    match opY op with
    | 0 => .ok .nop
    | 1 => .ok .exAfAf
    | 2 => arg1 rest .djnz
    | 3 => arg1 rest .jr
    | y => arg1 rest (.jrCc (jrCondOf y))
  | 1 =>
    match opQ op with
    | 0 => argW rest (.ldRrNn (regPairOf (opP op)))
    | _ => .ok (.addHlRr (regPairOf (opP op)))
  | 2 =>
    match opQ op, opP op with
    | 0, 0 => .ok .ldMBcA
    | 0, 1 => .ok .ldMDeA
    | 0, 2 => argW rest .ldMNnHl
    | 0, _ => argW rest .ldMNnA
    | _, 0 => .ok .ldAMBc
    | _, 1 => .ok .ldAMDe
    | _, 2 => argW rest .ldHlMNn
    | _, _ => argW rest .ldAMNn
  | 3 =>
    match opQ op with
    | 0 => .ok (.incRr (regPairOf (opP op)))
    | _ => .ok (.decRr (regPairOf (opP op)))
  | 4 =>
    match reg8? (opY op) with
    | some r => .ok (.incR r)
    | none => .ok .incMHl
  | 5 =>
    match reg8? (opY op) with
    | some r => .ok (.decR r)
    | none => .ok .decMHl
  | 6 =>
    match reg8? (opY op) with
    | some r => arg1 rest (.ldRN r)
    | none => arg1 rest .ldMHlN
  | _ =>
    match opY op with
    | 0 => .ok .rlca
    | 1 => .ok .rrca
    | 2 => .ok .rla
    | 3 => .ok .rra
    | 4 => .ok .daa
    | 5 => .ok .cpl
    | 6 => .ok .scf
    | _ => .ok .ccf

/-- The base table, `x = 1` (R134): HALT where both fields are 6, a load everywhere else. -/
def decodeBase1 (op : Byte) : Instr :=
  match reg8? (opY op), reg8? (opZ op) with
  | some t, some r => .ldRR t r
  | some t, none => .ldRMHl t
  | none, some r => .ldMHlR r
  | none, none => .halt

/-- The base table, `x = 3` (R136). -/
def decodeBase3 (op : Byte) (rest : List Byte) : Except DecodeError Instr :=
  match opZ op with
  | 0 => .ok (.retCc (condOf (opY op)))
  | 1 =>
    match opQ op, opP op with
    | 0, p => .ok (.popQq (stackPairOf p))
    | _, 0 => .ok .ret
    | _, 1 => .ok .exx
    | _, 2 => .ok .jpMHl
    | _, _ => .ok .ldSpHl
  | 2 => argW rest (.jpCcNn (condOf (opY op)))
  | 3 =>
    match opY op with
    | 0 => argW rest .jpNn
    | 1 => .error .notInBaseTable
    | 2 => arg1 rest .outMNA
    | 3 => arg1 rest .inAMN
    | 4 => .ok .exMSpHl
    | 5 => .ok .exDeHl
    | 6 => .ok .di
    | _ => .ok .ei
  | 4 => argW rest (.callCcNn (condOf (opY op)))
  | 5 =>
    match opQ op, opP op with
    | 0, p => .ok (.pushQq (stackPairOf p))
    | _, 0 => argW rest .callNn
    | _, _ => .error .notInBaseTable
  | 6 => arg1 rest (aluN (opY op))
  | _ => .ok (.rstP (opYBits op))

/-- The base table (R133 to R136): the instruction of opcode `op`, whose operand bytes stand at the head of `rest`. -/
def decodeBase (op : Byte) (rest : List Byte) : Except DecodeError Instr :=
  match opX op with
  | 0 => decodeBase0 op rest
  | 1 => .ok (decodeBase1 op)
  | 2 =>
    match reg8? (opZ op) with
    | some r => .ok (aluR (opY op) r)
    | none => .ok (aluMHl (opY op))
  | _ => decodeBase3 op rest

/-- The rotates and shifts of the CB table (R137, R396). -/
def rotR (o : Rot) (r : Reg8) : Instr :=
  match o with
  | .rlc => .rlcR r
  | .rrc => .rrcR r
  | .rl => .rlR r
  | .rr => .rrR r
  | .sla => .slaR r
  | .sra => .sraR r
  | .sll => .sllR r
  | .srl => .srlR r

/-- The rotates and shifts of the CB table on (HL) (R137, R396). -/
def rotMHl (o : Rot) : Instr :=
  match o with
  | .rlc => .rlcMHl
  | .rrc => .rrcMHl
  | .rl => .rlMHl
  | .rr => .rrMHl
  | .sla => .slaMHl
  | .sra => .sraMHl
  | .sll => .sllMHl
  | .srl => .srlMHl

/-- The CB table (R137). -/
def decodeCB (op : Byte) : Instr :=
  match opX op, reg8? (opZ op) with
  | 0, some r => rotR (rotOf (opY op)) r
  | 0, none => rotMHl (rotOf (opY op))
  | 1, some r => .bitBR (opYBits op) r
  | 1, none => .bitBMHl (opYBits op)
  | 2, some r => .resBR (opYBits op) r
  | 2, none => .resBMHl (opYBits op)
  | _, some r => .setBR (opYBits op) r
  | _, none => .setBMHl (opYBits op)

/-- `ED` codes with `x = 1`, `z = 7` (R138). -/
def decodeED7 (op : Byte) : Instr :=
  match opY op with
  | 0 => .ldIA
  | 1 => .ldRA
  | 2 => .ldAI
  | 3 => .ldAR
  | 4 => .rrd
  | 5 => .rld
  | _ => .nopStar op

/-- The IM mode of `y`: `[0, 0, 1, 2, 0, 0, 1, 2][y]` (R138). -/
def decodeIM (op : Byte) : Instr :=
  match opY op % 4 with
  | 2 => .im1 (opYBits op)
  | 3 => .im2 (opYBits op)
  | _ => .im0 (opYBits op)

/-- The block instructions `bli[y][z]` (R139); `ED` codes with `x = 2` that are none of them are the no-op (R154). -/
def decodeBlock (op : Byte) : Instr :=
  match opY op, opZ op with
  | 4, 0 => .ldi
  | 4, 1 => .cpi
  | 4, 2 => .ini
  | 4, 3 => .outi
  | 5, 0 => .ldd
  | 5, 1 => .cpd
  | 5, 2 => .ind
  | 5, 3 => .outd
  | 6, 0 => .ldir
  | 6, 1 => .cpir
  | 6, 2 => .inir
  | 6, 3 => .otir
  | 7, 0 => .lddr
  | 7, 1 => .cpdr
  | 7, 2 => .indr
  | 7, 3 => .otdr
  | _, _ => .nopStar op

/-- The ED table (R138, R139, R154). -/
def decodeED (op : Byte) (rest : List Byte) : Except DecodeError Instr :=
  match opX op with
  | 1 =>
    match opZ op with
    | 0 =>
      match reg8? (opY op) with
      | some r => .ok (.inRMC r)
      | none => .ok .inFMC
    | 1 =>
      match reg8? (opY op) with
      | some r => .ok (.outMCR r)
      | none => .ok .outMC0
    | 2 =>
      match opQ op with
      | 0 => .ok (.sbcHlRr (regPairOf (opP op)))
      | _ => .ok (.adcHlRr (regPairOf (opP op)))
    | 3 =>
      match opQ op with
      | 0 => argW rest (.ldMNnRr (regPairOf (opP op)))
      | _ => argW rest (.ldRrMNn (regPairOf (opP op)))
    | 4 => .ok (.neg (opYBits op))
    | 5 =>
      match opY op with
      | 1 => .ok .reti
      | _ => .ok (.retn (opYBits op))
    | 6 => .ok (decodeIM op)
    | _ => .ok (decodeED7 op)
  | 2 => .ok (decodeBlock op)
  | _ => .ok (.nopStar op)

/-- The redundant-prefix bytes (R153). -/
def prefixByte? (b : Byte) : Option PrefixByte :=
  if b = 0xDD then some .dd
  else if b = 0xED then some .ed
  else if b = 0xFD then some .fd
  else none

/-- The half an index-half code names (R150 item 3). -/
def half? : Nat → Option Half
  | 4 => some .hi
  | 5 => some .lo
  | _ => none

/-- The opcodes an index prefix changes, `x = 0` (R150, R151). -/
def decodeIndexed0 (x : IdxReg) (op : Byte) (rest : List Byte) : Option (Except DecodeError Instr) :=
  match opZ op with
  | 1 =>
    match opQ op, opP op with
    | 0, 2 => some (argW rest fun nn => x.sel (.ldIxNn nn) (.ldIyNn nn))
    | 0, _ => none
    | _, p => some (.ok (x.sel (.addIxRr (idxPairOf p)) (.addIyRr (idxPairOf p))))
  | 2 =>
    match opQ op, opP op with
    | 0, 2 => some (argW rest fun nn => x.sel (.ldMNnIx nn) (.ldMNnIy nn))
    | 1, 2 => some (argW rest fun nn => x.sel (.ldIxMNn nn) (.ldIyMNn nn))
    | _, _ => none
  | 3 =>
    match opQ op, opP op with
    | 0, 2 => some (.ok (x.sel .incIx .incIy))
    | 1, 2 => some (.ok (x.sel .decIx .decIy))
    | _, _ => none
  | 4 =>
    match half? (opY op), opY op with
    | some h, _ => some (.ok (x.sel (.incIxh h) (.incIyh h)))
    | none, 6 => some (arg1 rest fun d => x.sel (.incMIxd d) (.incMIyd d))
    | none, _ => none
  | 5 =>
    match half? (opY op), opY op with
    | some h, _ => some (.ok (x.sel (.decIxh h) (.decIyh h)))
    | none, 6 => some (arg1 rest fun d => x.sel (.decMIxd d) (.decMIyd d))
    | none, _ => none
  | 6 =>
    match half? (opY op), opY op with
    | some h, _ => some (arg1 rest fun n => x.sel (.ldIxhN h n) (.ldIyhN h n))
    | none, 6 => some (arg2 rest fun d n => x.sel (.ldMIxdN d n) (.ldMIydN d n))
    | none, _ => none
  | _ => none

/-- The opcodes an index prefix changes, `x = 1` (R150, R151): a memory operand becomes (XY+d) and its partner stays a
plain register; without one, H and L become the index halves; HALT and the loads of other registers escape. -/
def decodeIndexed1 (x : IdxReg) (op : Byte) (rest : List Byte) : Option (Except DecodeError Instr) :=
  match reg8? (opY op), reg8? (opZ op) with
  | none, none => none
  | none, some r => some (arg1 rest fun d => x.sel (.ldMIxdR d r) (.ldMIydR d r))
  | some r, none => some (arg1 rest fun d => x.sel (.ldRMIxd r d) (.ldRMIyd r d))
  | some _, some _ =>
    match hreg? (opY op), hreg? (opZ op) with
    | some t, some r => if t.isHalf || r.isHalf then some (.ok (x.sel (.ldRIxh t r) (.ldRIyh t r))) else none
    | _, _ => none

/-- The opcodes an index prefix changes, `x = 2` (R150, R290). -/
def decodeIndexed2 (x : IdxReg) (op : Byte) (rest : List Byte) : Option (Except DecodeError Instr) :=
  match half? (opZ op), opZ op with
  | some h, _ => some (.ok (aluXh x (opY op) h))
  | none, 6 => some (arg1 rest (aluMXd x (opY op)))
  | none, _ => none

/-- The opcodes an index prefix changes, `x = 3` (R150, R151). -/
def decodeIndexed3 (x : IdxReg) (op : Byte) : Option Instr :=
  match opY op, opZ op with
  | 4, 1 => some (x.sel .popIx .popIy)
  | 4, 3 => some (x.sel .exMSpIx .exMSpIy)
  | 4, 5 => some (x.sel .pushIx .pushIy)
  | 5, 1 => some (x.sel .jpMIx .jpMIy)
  | 7, 1 => some (x.sel .ldSpIx .ldSpIy)
  | _, _ => none

/-- The opcodes R150 changes; none means the byte escapes (R151). -/
def decodeIndexed (x : IdxReg) (op : Byte) (rest : List Byte) : Option (Except DecodeError Instr) :=
  match opX op with
  | 0 => decodeIndexed0 x op rest
  | 1 => decodeIndexed1 x op rest
  | 2 => decodeIndexed2 x op rest
  | _ => (decodeIndexed3 x op).map .ok

/-- The rotates and shifts of (XY+d) (R152, R392). -/
def rotMXd (x : IdxReg) (o : Rot) (d : Byte) : Instr :=
  match o with
  | .rlc => x.sel (.rlcMIxd d) (.rlcMIyd d)
  | .rrc => x.sel (.rrcMIxd d) (.rrcMIyd d)
  | .rl => x.sel (.rlMIxd d) (.rlMIyd d)
  | .rr => x.sel (.rrMIxd d) (.rrMIyd d)
  | .sla => x.sel (.slaMIxd d) (.slaMIyd d)
  | .sra => x.sel (.sraMIxd d) (.sraMIyd d)
  | .sll => x.sel (.sllMIxd d) (.sllMIyd d)
  | .srl => x.sel (.srlMIxd d) (.srlMIyd d)

/-- The DD CB and FD CB tables (R152): the displacement `d` stands before the opcode. -/
def decodeXCB (x : IdxReg) (d op : Byte) : Instr :=
  let b := opYBits op
  match opX op, reg8? (opZ op) with
  | 0, none => rotMXd x (rotOf (opY op)) d
  | 0, some r => x.sel (.rotMIxdR (rotOf (opY op)) d r) (.rotMIydR (rotOf (opY op)) d r)
  | 1, _ => x.sel (.bitBMIxd b d (opZBits op)) (.bitBMIyd b d (opZBits op))
  | 2, none => x.sel (.resBMIxd b d) (.resBMIyd b d)
  | 2, some r => x.sel (.resBMIxdR b d r) (.resBMIydR b d r)
  | _, none => x.sel (.setBMIxd b d) (.setBMIyd b d)
  | _, some r => x.sel (.setBMIxdR b d r) (.setBMIydR b d r)

/-- What follows an index prefix (R150 to R153). -/
def decodeXY (x : IdxReg) : List Byte → Except DecodeError Instr
  | [] => .error .truncated
  | b1 :: rest =>
    match prefixByte? b1 with
    | some f => .ok (x.sel (.ddRedundant f) (.fdRedundant f))
    | none =>
      if b1 = 0xCB then arg2 rest (decodeXCB x)
      else
        match decodeIndexed x b1 rest with
        | some i => i
        | none => (decodeBase b1 rest).map fun i => x.sel (.ddEscape i) (.fdEscape i)

/-- The decoder: the instruction at the head of a list of bytes (R130 to R157). -/
def decode : List Byte → Except DecodeError Instr
  | [] => .error .truncated
  | b0 :: rest =>
    if b0 = 0xCB then arg1 rest decodeCB
    else if b0 = 0xED then
      match rest with
      | [] => .error .truncated
      | op :: args => decodeED op args
    else if b0 = 0xDD then decodeXY .ix rest
    else if b0 = 0xFD then decodeXY .iy rest
    else decodeBase b0 rest

/-! ## Lengths (R156) -/

/-- The length of an instruction in bytes: the `length` column of spec/opcode_table.json (R156); an escape is one byte
longer than its base instruction (R151), and a redundant prefix is one byte, the byte after it not being consumed
(R153). -/
def Instr.length : Instr → Nat
  | .ddEscape i => 1 + i.length
  | .fdEscape i => 1 + i.length
  | .nop | .exAfAf | .addHlRr _ | .ldMBcA | .ldMDeA | .ldAMBc | .ldAMDe | .incRr _ | .decRr _ | .incR _ | .incMHl
  | .decR _ | .decMHl | .rlca | .rrca | .rla | .rra | .daa | .cpl | .scf | .ccf | .ldRR _ _ | .ldRMHl _ | .ldMHlR _
  | .halt | .addAR _ | .addAMHl | .adcAR _ | .adcAMHl | .subR _ | .subMHl | .sbcAR _ | .sbcAMHl | .andR _ | .andMHl
  | .xorR _ | .xorMHl | .orR _ | .orMHl | .cpR _ | .cpMHl | .retCc _ | .popQq _ | .ret | .exx | .jpMHl | .ldSpHl
  | .exMSpHl | .exDeHl | .di | .ei | .pushQq _ | .rstP _ | .ddRedundant _ | .fdRedundant _ => 1
  | .djnz _ | .jr _ | .jrCc _ _ | .ldRN _ _ | .ldMHlN _ | .addAN _ | .adcAN _ | .subN _ | .sbcAN _ | .andN _
  | .xorN _ | .orN _ | .cpN _ | .outMNA _ | .inAMN _ | .rlcR _ | .rlcMHl | .rrcR _ | .rrcMHl | .rlR _ | .rlMHl
  | .rrR _ | .rrMHl | .slaR _ | .slaMHl | .sraR _ | .sraMHl | .sllR _ | .sllMHl | .srlR _ | .srlMHl | .bitBR _ _
  | .bitBMHl _ | .resBR _ _ | .resBMHl _ | .setBR _ _ | .setBMHl _ | .inRMC _ | .inFMC | .outMCR _ | .outMC0
  | .sbcHlRr _ | .adcHlRr _ | .neg _ | .reti | .retn _ | .im0 _ | .im1 _ | .im2 _ | .ldIA | .ldRA | .ldAI | .ldAR
  | .rrd | .rld | .ldi | .cpi | .ini | .outi | .ldd | .cpd | .ind | .outd | .ldir | .cpir | .inir | .otir | .lddr
  | .cpdr | .indr | .otdr | .nopStar _ | .addIxRr _ | .incIx | .decIx | .incIxh _ | .decIxh _ | .ldRIxh _ _ | .popIx
  | .exMSpIx | .pushIx | .jpMIx | .ldSpIx | .addIyRr _ | .incIy | .decIy | .incIyh _ | .decIyh _ | .ldRIyh _ _
  | .popIy | .exMSpIy | .pushIy | .jpMIy | .ldSpIy | .addAXh _ _ | .adcAXh _ _ | .subXh _ _ | .sbcAXh _ _
  | .andXh _ _ | .xorXh _ _ | .orXh _ _ | .cpXh _ _ => 2
  | .ldRrNn _ _ | .ldMNnHl _ | .ldMNnA _ | .ldHlMNn _ | .ldAMNn _ | .jpCcNn _ _ | .jpNn _ | .callCcNn _ _
  | .callNn _ | .ldIxhN _ _ | .incMIxd _ | .decMIxd _ | .ldRMIxd _ _ | .ldMIxdR _ _ | .addAMIxd _ | .adcAMIxd _
  | .subMIxd _ | .sbcAMIxd _ | .andMIxd _ | .xorMIxd _ | .orMIxd _ | .cpMIxd _ | .ldIyhN _ _ | .incMIyd _
  | .decMIyd _ | .ldRMIyd _ _ | .ldMIydR _ _ | .addAMIyd _ | .adcAMIyd _ | .subMIyd _ | .sbcAMIyd _ | .andMIyd _
  | .xorMIyd _ | .orMIyd _ | .cpMIyd _ => 3
  | .ldMNnRr _ _ | .ldRrMNn _ _ | .ldIxNn _ | .ldMNnIx _ | .ldIxMNn _ | .ldMIxdN _ _ | .rlcMIxd _ | .rrcMIxd _
  | .rlMIxd _ | .rrMIxd _ | .slaMIxd _ | .sraMIxd _ | .sllMIxd _ | .srlMIxd _ | .rotMIxdR _ _ _ | .bitBMIxd _ _ _
  | .resBMIxd _ _ | .setBMIxd _ _ | .resBMIxdR _ _ _ | .setBMIxdR _ _ _ | .ldIyNn _ | .ldMNnIy _ | .ldIyMNn _
  | .ldMIydN _ _ | .rlcMIyd _ | .rrcMIyd _ | .rlMIyd _ | .rrMIyd _ | .slaMIyd _ | .sraMIyd _ | .sllMIyd _
  | .srlMIyd _ | .rotMIydR _ _ _ | .bitBMIyd _ _ _ | .resBMIyd _ _ | .setBMIyd _ _ | .resBMIydR _ _ _
  | .setBMIydR _ _ _ => 4

/-- How many bytes past its own length the decoder looks at: the byte that makes an index prefix redundant (R153). -/
def Instr.lookahead : Instr → Nat
  | .ddRedundant _ => 1
  | .fdRedundant _ => 1
  | .nop | .exAfAf | .djnz _ | .jr _ | .jrCc _ _ | .ldRrNn _ _ | .addHlRr _ | .ldMBcA | .ldMDeA | .ldMNnHl _
  | .ldMNnA _ | .ldAMBc | .ldAMDe | .ldHlMNn _ | .ldAMNn _ | .incRr _ | .decRr _ | .incR _ | .incMHl | .decR _
  | .decMHl | .ldRN _ _ | .ldMHlN _ | .rlca | .rrca | .rla | .rra | .daa | .cpl | .scf | .ccf | .ldRR _ _
  | .ldRMHl _ | .ldMHlR _ | .halt | .addAR _ | .addAMHl | .addAN _ | .adcAR _ | .adcAMHl | .adcAN _ | .subR _
  | .subMHl | .subN _ | .sbcAR _ | .sbcAMHl | .sbcAN _ | .andR _ | .andMHl | .andN _ | .xorR _ | .xorMHl | .xorN _
  | .orR _ | .orMHl | .orN _ | .cpR _ | .cpMHl | .cpN _ | .retCc _ | .popQq _ | .ret | .exx | .jpMHl | .ldSpHl
  | .jpCcNn _ _ | .jpNn _ | .outMNA _ | .inAMN _ | .exMSpHl | .exDeHl | .di | .ei | .callCcNn _ _ | .pushQq _
  | .callNn _ | .rstP _ | .rlcR _ | .rlcMHl | .rrcR _ | .rrcMHl | .rlR _ | .rlMHl | .rrR _ | .rrMHl | .slaR _
  | .slaMHl | .sraR _ | .sraMHl | .sllR _ | .sllMHl | .srlR _ | .srlMHl | .bitBR _ _ | .bitBMHl _ | .resBR _ _
  | .resBMHl _ | .setBR _ _ | .setBMHl _ | .inRMC _ | .inFMC | .outMCR _ | .outMC0 | .sbcHlRr _ | .adcHlRr _
  | .ldMNnRr _ _ | .ldRrMNn _ _ | .neg _ | .reti | .retn _ | .im0 _ | .im1 _ | .im2 _ | .ldIA | .ldRA | .ldAI
  | .ldAR | .rrd | .rld | .ldi | .cpi | .ini | .outi | .ldd | .cpd | .ind | .outd | .ldir | .cpir | .inir | .otir
  | .lddr | .cpdr | .indr | .otdr | .nopStar _ | .ldIxNn _ | .ldMNnIx _ | .ldIxMNn _ | .addIxRr _ | .incIx | .decIx
  | .incIxh _ | .decIxh _ | .ldIxhN _ _ | .incMIxd _ | .decMIxd _ | .ldMIxdN _ _ | .ldRIxh _ _ | .ldRMIxd _ _
  | .ldMIxdR _ _ | .popIx | .exMSpIx | .pushIx | .jpMIx | .ldSpIx | .addAMIxd _ | .adcAMIxd _ | .subMIxd _
  | .sbcAMIxd _ | .andMIxd _ | .xorMIxd _ | .orMIxd _ | .cpMIxd _ | .ddEscape _ | .rlcMIxd _ | .rrcMIxd _
  | .rlMIxd _ | .rrMIxd _ | .slaMIxd _ | .sraMIxd _ | .sllMIxd _ | .srlMIxd _ | .rotMIxdR _ _ _ | .bitBMIxd _ _ _
  | .resBMIxd _ _ | .setBMIxd _ _ | .resBMIxdR _ _ _ | .setBMIxdR _ _ _ | .ldIyNn _ | .ldMNnIy _ | .ldIyMNn _
  | .addIyRr _ | .incIy | .decIy | .incIyh _ | .decIyh _ | .ldIyhN _ _ | .incMIyd _ | .decMIyd _ | .ldMIydN _ _
  | .ldRIyh _ _ | .ldRMIyd _ _ | .ldMIydR _ _ | .popIy | .exMSpIy | .pushIy | .jpMIy | .ldSpIy | .addAMIyd _
  | .adcAMIyd _ | .subMIyd _ | .sbcAMIyd _ | .andMIyd _ | .xorMIyd _ | .orMIyd _ | .cpMIyd _ | .fdEscape _
  | .rlcMIyd _ | .rrcMIyd _ | .rlMIyd _ | .rrMIyd _ | .slaMIyd _ | .sraMIyd _ | .sllMIyd _ | .srlMIyd _
  | .rotMIydR _ _ _ | .bitBMIyd _ _ _ | .resBMIyd _ _ | .setBMIyd _ _ | .resBMIydR _ _ _ | .setBMIydR _ _ _
  | .addAXh _ _ | .adcAXh _ _ | .subXh _ _ | .sbcAXh _ _ | .andXh _ _ | .xorXh _ _ | .orXh _ _ | .cpXh _ _ => 0

/-! ## The encoder -/

/-- The opcode byte with the fields `x`, `y`, `z` (R132). -/
def opc (x y z : Nat) : Byte := BitVec.ofNat 8 (x * 64 + y * 8 + z)

/-- The opcode byte with the fields `x`, `p`, `q`, `z` (R132). -/
def opcPQ (x p q z : Nat) : Byte := opc x (p * 2 + q) z

/-- The opcode byte whose `y` field is kept whole (R144). -/
def opcB (x : Nat) (y : BitVec 3) (z : Nat) : Byte := opc x y.toNat z

/-- Register codes (R35). -/
def Reg8.code : Reg8 → Nat
  | .b => 0
  | .c => 1
  | .d => 2
  | .e => 3
  | .h => 4
  | .l => 5
  | .a => 7

/-- Register codes under an index prefix (R35, R218). -/
def HReg.code : HReg → Nat
  | .b => 0
  | .c => 1
  | .d => 2
  | .e => 3
  | .xh => 4
  | .xl => 5
  | .a => 7

/-- The `rp` codes (R38). -/
def RegPair.code : RegPair → Nat
  | .bc => 0
  | .de => 1
  | .hl => 2
  | .sp => 3

/-- The `rp2` codes (R38). -/
def StackPair.code : StackPair → Nat
  | .bc => 0
  | .de => 1
  | .hl => 2
  | .af => 3

/-- The `rpx` codes (R38). -/
def IdxPair.code : IdxPair → Nat
  | .bc => 0
  | .de => 1
  | .xy => 2
  | .sp => 3

/-- Condition codes (R39). -/
def Cond.code : Cond → Nat
  | .nz => 0
  | .z => 1
  | .nc => 2
  | .c => 3
  | .po => 4
  | .pe => 5
  | .p => 6
  | .m => 7

/-- The `y` field of a conditional JR (R133, R143). -/
def JrCond.code : JrCond → Nat
  | .nz => 4
  | .z => 5
  | .nc => 6
  | .c => 7

/-- Rotate codes (R137). -/
def Rot.code : Rot → Nat
  | .rlc => 0
  | .rrc => 1
  | .rl => 2
  | .rr => 3
  | .sla => 4
  | .sra => 5
  | .sll => 6
  | .srl => 7

/-- The register code of an index half (R35). -/
def Half.code : Half → Nat
  | .hi => 4
  | .lo => 5

/-- The prefix byte of an index register (R131). -/
def IdxReg.byte : IdxReg → Byte
  | .ix => 0xDD
  | .iy => 0xFD

/-- The byte after a redundant prefix (R153). -/
def PrefixByte.byte : PrefixByte → Byte
  | .dd => 0xDD
  | .ed => 0xED
  | .fd => 0xFD

/-- The bytes of an instruction, its first byte first; a redundant prefix is written with the byte that makes it one. -/
def encode : Instr → List Byte
  | .nop => [0x00]
  | .exAfAf => [0x08]
  | .djnz e => [0x10, e]
  | .jr e => [0x18, e]
  | .jrCc cc e => [opc 0 cc.code 0, e]
  | .ldRrNn p nn => [opcPQ 0 p.code 0 1, nn.lo, nn.hi]
  | .addHlRr p => [opcPQ 0 p.code 1 1]
  | .ldMBcA => [0x02]
  | .ldMDeA => [0x12]
  | .ldMNnHl nn => [0x22, nn.lo, nn.hi]
  | .ldMNnA nn => [0x32, nn.lo, nn.hi]
  | .ldAMBc => [0x0A]
  | .ldAMDe => [0x1A]
  | .ldHlMNn nn => [0x2A, nn.lo, nn.hi]
  | .ldAMNn nn => [0x3A, nn.lo, nn.hi]
  | .incRr p => [opcPQ 0 p.code 0 3]
  | .decRr p => [opcPQ 0 p.code 1 3]
  | .incR r => [opc 0 r.code 4]
  | .incMHl => [0x34]
  | .decR r => [opc 0 r.code 5]
  | .decMHl => [0x35]
  | .ldRN r n => [opc 0 r.code 6, n]
  | .ldMHlN n => [0x36, n]
  | .rlca => [0x07]
  | .rrca => [0x0F]
  | .rla => [0x17]
  | .rra => [0x1F]
  | .daa => [0x27]
  | .cpl => [0x2F]
  | .scf => [0x37]
  | .ccf => [0x3F]
  | .ldRR t r => [opc 1 t.code r.code]
  | .ldRMHl r => [opc 1 r.code 6]
  | .ldMHlR r => [opc 1 6 r.code]
  | .halt => [0x76]
  | .addAR r => [opc 2 0 r.code]
  | .addAMHl => [opc 2 0 6]
  | .addAN n => [opc 3 0 6, n]
  | .adcAR r => [opc 2 1 r.code]
  | .adcAMHl => [opc 2 1 6]
  | .adcAN n => [opc 3 1 6, n]
  | .subR r => [opc 2 2 r.code]
  | .subMHl => [opc 2 2 6]
  | .subN n => [opc 3 2 6, n]
  | .sbcAR r => [opc 2 3 r.code]
  | .sbcAMHl => [opc 2 3 6]
  | .sbcAN n => [opc 3 3 6, n]
  | .andR r => [opc 2 4 r.code]
  | .andMHl => [opc 2 4 6]
  | .andN n => [opc 3 4 6, n]
  | .xorR r => [opc 2 5 r.code]
  | .xorMHl => [opc 2 5 6]
  | .xorN n => [opc 3 5 6, n]
  | .orR r => [opc 2 6 r.code]
  | .orMHl => [opc 2 6 6]
  | .orN n => [opc 3 6 6, n]
  | .cpR r => [opc 2 7 r.code]
  | .cpMHl => [opc 2 7 6]
  | .cpN n => [opc 3 7 6, n]
  | .retCc cc => [opc 3 cc.code 0]
  | .popQq q => [opcPQ 3 q.code 0 1]
  | .ret => [0xC9]
  | .exx => [0xD9]
  | .jpMHl => [0xE9]
  | .ldSpHl => [0xF9]
  | .jpCcNn cc nn => [opc 3 cc.code 2, nn.lo, nn.hi]
  | .jpNn nn => [0xC3, nn.lo, nn.hi]
  | .outMNA n => [0xD3, n]
  | .inAMN n => [0xDB, n]
  | .exMSpHl => [0xE3]
  | .exDeHl => [0xEB]
  | .di => [0xF3]
  | .ei => [0xFB]
  | .callCcNn cc nn => [opc 3 cc.code 4, nn.lo, nn.hi]
  | .pushQq q => [opcPQ 3 q.code 0 5]
  | .callNn nn => [0xCD, nn.lo, nn.hi]
  | .rstP y => [opcB 3 y 7]
  | .rlcR r => [0xCB, opc 0 0 r.code]
  | .rlcMHl => [0xCB, opc 0 0 6]
  | .rrcR r => [0xCB, opc 0 1 r.code]
  | .rrcMHl => [0xCB, opc 0 1 6]
  | .rlR r => [0xCB, opc 0 2 r.code]
  | .rlMHl => [0xCB, opc 0 2 6]
  | .rrR r => [0xCB, opc 0 3 r.code]
  | .rrMHl => [0xCB, opc 0 3 6]
  | .slaR r => [0xCB, opc 0 4 r.code]
  | .slaMHl => [0xCB, opc 0 4 6]
  | .sraR r => [0xCB, opc 0 5 r.code]
  | .sraMHl => [0xCB, opc 0 5 6]
  | .sllR r => [0xCB, opc 0 6 r.code]
  | .sllMHl => [0xCB, opc 0 6 6]
  | .srlR r => [0xCB, opc 0 7 r.code]
  | .srlMHl => [0xCB, opc 0 7 6]
  | .bitBR b r => [0xCB, opcB 1 b r.code]
  | .bitBMHl b => [0xCB, opcB 1 b 6]
  | .resBR b r => [0xCB, opcB 2 b r.code]
  | .resBMHl b => [0xCB, opcB 2 b 6]
  | .setBR b r => [0xCB, opcB 3 b r.code]
  | .setBMHl b => [0xCB, opcB 3 b 6]
  | .inRMC r => [0xED, opc 1 r.code 0]
  | .inFMC => [0xED, 0x70]
  | .outMCR r => [0xED, opc 1 r.code 1]
  | .outMC0 => [0xED, 0x71]
  | .sbcHlRr p => [0xED, opcPQ 1 p.code 0 2]
  | .adcHlRr p => [0xED, opcPQ 1 p.code 1 2]
  | .ldMNnRr p nn => [0xED, opcPQ 1 p.code 0 3, nn.lo, nn.hi]
  | .ldRrMNn p nn => [0xED, opcPQ 1 p.code 1 3, nn.lo, nn.hi]
  | .neg y => [0xED, opcB 1 y 4]
  | .reti => [0xED, 0x4D]
  | .retn y => [0xED, opcB 1 y 5]
  | .im0 y => [0xED, opcB 1 y 6]
  | .im1 y => [0xED, opcB 1 y 6]
  | .im2 y => [0xED, opcB 1 y 6]
  | .ldIA => [0xED, 0x47]
  | .ldRA => [0xED, 0x4F]
  | .ldAI => [0xED, 0x57]
  | .ldAR => [0xED, 0x5F]
  | .rrd => [0xED, 0x67]
  | .rld => [0xED, 0x6F]
  | .ldi => [0xED, 0xA0]
  | .cpi => [0xED, 0xA1]
  | .ini => [0xED, 0xA2]
  | .outi => [0xED, 0xA3]
  | .ldd => [0xED, 0xA8]
  | .cpd => [0xED, 0xA9]
  | .ind => [0xED, 0xAA]
  | .outd => [0xED, 0xAB]
  | .ldir => [0xED, 0xB0]
  | .cpir => [0xED, 0xB1]
  | .inir => [0xED, 0xB2]
  | .otir => [0xED, 0xB3]
  | .lddr => [0xED, 0xB8]
  | .cpdr => [0xED, 0xB9]
  | .indr => [0xED, 0xBA]
  | .otdr => [0xED, 0xBB]
  | .nopStar op => [0xED, op]
  | .ldIxNn nn => [0xDD, 0x21, nn.lo, nn.hi]
  | .ldMNnIx nn => [0xDD, 0x22, nn.lo, nn.hi]
  | .ldIxMNn nn => [0xDD, 0x2A, nn.lo, nn.hi]
  | .addIxRr p => [0xDD, opcPQ 0 p.code 1 1]
  | .incIx => [0xDD, 0x23]
  | .decIx => [0xDD, 0x2B]
  | .incIxh h => [0xDD, opc 0 h.code 4]
  | .decIxh h => [0xDD, opc 0 h.code 5]
  | .ldIxhN h n => [0xDD, opc 0 h.code 6, n]
  | .incMIxd d => [0xDD, 0x34, d]
  | .decMIxd d => [0xDD, 0x35, d]
  | .ldMIxdN d n => [0xDD, 0x36, d, n]
  | .ldRIxh t r => [0xDD, opc 1 t.code r.code]
  | .ldRMIxd r d => [0xDD, opc 1 r.code 6, d]
  | .ldMIxdR d r => [0xDD, opc 1 6 r.code, d]
  | .popIx => [0xDD, 0xE1]
  | .exMSpIx => [0xDD, 0xE3]
  | .pushIx => [0xDD, 0xE5]
  | .jpMIx => [0xDD, 0xE9]
  | .ldSpIx => [0xDD, 0xF9]
  | .addAMIxd d => [0xDD, opc 2 0 6, d]
  | .adcAMIxd d => [0xDD, opc 2 1 6, d]
  | .subMIxd d => [0xDD, opc 2 2 6, d]
  | .sbcAMIxd d => [0xDD, opc 2 3 6, d]
  | .andMIxd d => [0xDD, opc 2 4 6, d]
  | .xorMIxd d => [0xDD, opc 2 5 6, d]
  | .orMIxd d => [0xDD, opc 2 6 6, d]
  | .cpMIxd d => [0xDD, opc 2 7 6, d]
  | .ddRedundant f => [0xDD, f.byte]
  | .ddEscape i => 0xDD :: encode i
  | .rlcMIxd d => [0xDD, 0xCB, d, opc 0 0 6]
  | .rrcMIxd d => [0xDD, 0xCB, d, opc 0 1 6]
  | .rlMIxd d => [0xDD, 0xCB, d, opc 0 2 6]
  | .rrMIxd d => [0xDD, 0xCB, d, opc 0 3 6]
  | .slaMIxd d => [0xDD, 0xCB, d, opc 0 4 6]
  | .sraMIxd d => [0xDD, 0xCB, d, opc 0 5 6]
  | .sllMIxd d => [0xDD, 0xCB, d, opc 0 6 6]
  | .srlMIxd d => [0xDD, 0xCB, d, opc 0 7 6]
  | .rotMIxdR o d r => [0xDD, 0xCB, d, opc 0 o.code r.code]
  | .bitBMIxd b d z => [0xDD, 0xCB, d, opcB 1 b z.toNat]
  | .resBMIxd b d => [0xDD, 0xCB, d, opcB 2 b 6]
  | .setBMIxd b d => [0xDD, 0xCB, d, opcB 3 b 6]
  | .resBMIxdR b d r => [0xDD, 0xCB, d, opcB 2 b r.code]
  | .setBMIxdR b d r => [0xDD, 0xCB, d, opcB 3 b r.code]
  | .ldIyNn nn => [0xFD, 0x21, nn.lo, nn.hi]
  | .ldMNnIy nn => [0xFD, 0x22, nn.lo, nn.hi]
  | .ldIyMNn nn => [0xFD, 0x2A, nn.lo, nn.hi]
  | .addIyRr p => [0xFD, opcPQ 0 p.code 1 1]
  | .incIy => [0xFD, 0x23]
  | .decIy => [0xFD, 0x2B]
  | .incIyh h => [0xFD, opc 0 h.code 4]
  | .decIyh h => [0xFD, opc 0 h.code 5]
  | .ldIyhN h n => [0xFD, opc 0 h.code 6, n]
  | .incMIyd d => [0xFD, 0x34, d]
  | .decMIyd d => [0xFD, 0x35, d]
  | .ldMIydN d n => [0xFD, 0x36, d, n]
  | .ldRIyh t r => [0xFD, opc 1 t.code r.code]
  | .ldRMIyd r d => [0xFD, opc 1 r.code 6, d]
  | .ldMIydR d r => [0xFD, opc 1 6 r.code, d]
  | .popIy => [0xFD, 0xE1]
  | .exMSpIy => [0xFD, 0xE3]
  | .pushIy => [0xFD, 0xE5]
  | .jpMIy => [0xFD, 0xE9]
  | .ldSpIy => [0xFD, 0xF9]
  | .addAMIyd d => [0xFD, opc 2 0 6, d]
  | .adcAMIyd d => [0xFD, opc 2 1 6, d]
  | .subMIyd d => [0xFD, opc 2 2 6, d]
  | .sbcAMIyd d => [0xFD, opc 2 3 6, d]
  | .andMIyd d => [0xFD, opc 2 4 6, d]
  | .xorMIyd d => [0xFD, opc 2 5 6, d]
  | .orMIyd d => [0xFD, opc 2 6 6, d]
  | .cpMIyd d => [0xFD, opc 2 7 6, d]
  | .fdRedundant f => [0xFD, f.byte]
  | .fdEscape i => 0xFD :: encode i
  | .rlcMIyd d => [0xFD, 0xCB, d, opc 0 0 6]
  | .rrcMIyd d => [0xFD, 0xCB, d, opc 0 1 6]
  | .rlMIyd d => [0xFD, 0xCB, d, opc 0 2 6]
  | .rrMIyd d => [0xFD, 0xCB, d, opc 0 3 6]
  | .slaMIyd d => [0xFD, 0xCB, d, opc 0 4 6]
  | .sraMIyd d => [0xFD, 0xCB, d, opc 0 5 6]
  | .sllMIyd d => [0xFD, 0xCB, d, opc 0 6 6]
  | .srlMIyd d => [0xFD, 0xCB, d, opc 0 7 6]
  | .rotMIydR o d r => [0xFD, 0xCB, d, opc 0 o.code r.code]
  | .bitBMIyd b d z => [0xFD, 0xCB, d, opcB 1 b z.toNat]
  | .resBMIyd b d => [0xFD, 0xCB, d, opcB 2 b 6]
  | .setBMIyd b d => [0xFD, 0xCB, d, opcB 3 b 6]
  | .resBMIydR b d r => [0xFD, 0xCB, d, opcB 2 b r.code]
  | .setBMIydR b d r => [0xFD, 0xCB, d, opcB 3 b r.code]
  | .addAXh x h => [x.byte, opc 2 0 h.code]
  | .adcAXh x h => [x.byte, opc 2 1 h.code]
  | .subXh x h => [x.byte, opc 2 2 h.code]
  | .sbcAXh x h => [x.byte, opc 2 3 h.code]
  | .andXh x h => [x.byte, opc 2 4 h.code]
  | .xorXh x h => [x.byte, opc 2 5 h.code]
  | .orXh x h => [x.byte, opc 2 6 h.code]
  | .cpXh x h => [x.byte, opc 2 7 h.code]

/-- How many opcode fetches a step makes (R163): one for a base instruction and for a redundant prefix, two for a CB,
ED, DD or FD instruction, escapes and the DD CB and FD CB forms among them. -/
def Instr.m1Count (i : Instr) : Nat :=
  if i.lookahead = 1 then 1
  else
    match encode i with
    | b :: _ => if b = 0xCB ∨ b = 0xED ∨ b = 0xDD ∨ b = 0xFD then 2 else 1
    | [] => 1

/-! ## The words of spec/opcode_table.json -/

/-- The key bytes of a table word of `nbits` bits. The table writes a key as one number whose most significant byte is the
instruction's first byte (`match` 0xCB06 is CB 06, 0xDDCB0006 is DD CB 00 06), and the first byte of a longer key is a
prefix; a word whose most significant byte is no prefix is read from its other end. -/
def tableKey (nbits w : Nat) : List Byte :=
  let byte (k : Nat) : Byte := BitVec.ofNat 8 (w / 256 ^ k)
  let bytes := (List.range (nbits / 8)).map byte
  let first := byte (nbits / 8 - 1)
  if first = 0xCB ∨ first = 0xED ∨ first = 0xDD ∨ first = 0xFD then bytes.reverse else bytes

/-- The bytes of the instruction a table word stands for: its key, then zeros up to the longest instruction (R130). -/
def tableBytes (nbits w : Nat) : List Byte := (tableKey nbits w ++ [0, 0, 0, 0]).take 4

/-- The instruction the decoder reads from a word of spec/opcode_table.json, the bytes above the key being zeros. -/
def decodeTableWord (nbits w : Nat) : Option Instr :=
  match decode (tableBytes nbits w) with
  | .ok i => some i
  | .error _ => none

end Sys2Proof
end

