-- ==== Sys2Proof/Machine/Flags.lean ====
section
/-! DEFINITION. Every flag computation: the layout of F (spec/10_state.md R36), the shorthand of spec/00_scope.md R12, and
the results of spec/42_exchange_block.md to 49_io.md. A computation answers the result byte and the new F; a flag it does
not set is copied from the old F. -/

namespace Sys2Proof.Machine

/-! ## F (R36) -/

/-- F from its eight flags, S first. -/
def packF (s z y h x pv n c : Bool) : Byte :=
  BitVec.ofBool s ++ BitVec.ofBool z ++ BitVec.ofBool y ++ BitVec.ofBool h ++ BitVec.ofBool x ++ BitVec.ofBool pv ++
    BitVec.ofBool n ++ BitVec.ofBool c

/-- F.S. -/
def flagS (f : Byte) : Bool := f.getLsbD 7
/-- F.Z. -/
def flagZ (f : Byte) : Bool := f.getLsbD 6
/-- F.Y. -/
def flagY (f : Byte) : Bool := f.getLsbD 5
/-- F.H. -/
def flagH (f : Byte) : Bool := f.getLsbD 4
/-- F.X. -/
def flagX (f : Byte) : Bool := f.getLsbD 3
/-- F.PV. -/
def flagPV (f : Byte) : Bool := f.getLsbD 2
/-- F.N. -/
def flagN (f : Byte) : Bool := f.getLsbD 1
/-- F.C. -/
def flagC (f : Byte) : Bool := f.getLsbD 0

/-- `parity(v)`: true when `v` has an even number of 1 bits (R11). -/
def parity (v : Byte) : Bool :=
  !(v.getLsbD 0 ^^ v.getLsbD 1 ^^ v.getLsbD 2 ^^ v.getLsbD 3 ^^ v.getLsbD 4 ^^ v.getLsbD 5 ^^ v.getLsbD 6 ^^ v.getLsbD 7)

/-- F with `SZXY(v)` and the other four flags given (R12). -/
def szxyF (v : Byte) (h pv n c : Bool) : Byte :=
  packF (v.getLsbD 7) (v == 0) (v.getLsbD 5) h (v.getLsbD 3) pv n c

/-- F with `SZXYP(v)` and the other three flags given (R12). -/
def szxypF (v : Byte) (h n c : Bool) : Byte := szxyF v h (parity v) n c

/-- A carry as the byte 0 or 1. -/
def carryByte (c : Bool) : Byte := if c then 1 else 0

/-- A carry as the word 0 or 1. -/
def carryWord (c : Bool) : Word := if c then 1 else 0

/-- A result and the new F. -/
structure Res8 where
  r : Byte
  f : Byte
deriving DecidableEq, Repr

/-- A 16-bit result and the new F. -/
structure Res16 where
  r : Word
  f : Byte
deriving DecidableEq, Repr

/-! ## 8-bit arithmetic and logic (R291 to R298) -/

/-- `A + v + c` (R291, R292). -/
def add8 (a v : Byte) (c : Bool) : Res8 :=
  let r := a + v + carryByte c
  { r := r
    f := szxyF r (decide (15 < a.toNat % 16 + v.toNat % 16 + c.toNat))
      (a.getLsbD 7 == v.getLsbD 7 && r.getLsbD 7 != a.getLsbD 7) false (decide (255 < a.toNat + v.toNat + c.toNat)) }

/-- `A − v − c` (R293, R294). -/
def sub8 (a v : Byte) (c : Bool) : Res8 :=
  let r := a - v - carryByte c
  { r := r
    f := szxyF r (decide (a.toNat % 16 < v.toNat % 16 + c.toNat))
      (a.getLsbD 7 != v.getLsbD 7 && r.getLsbD 7 != a.getLsbD 7) true (decide (a.toNat < v.toNat + c.toNat)) }

/-- F after `CP v` (R298): as `SUB v`, but Y and X come from the operand. -/
def cp8 (a v : Byte) : Byte :=
  let r := a - v
  packF (r.getLsbD 7) (r == 0) (v.getLsbD 5) (decide (a.toNat % 16 < v.toNat % 16)) (v.getLsbD 3)
    (a.getLsbD 7 != v.getLsbD 7 && r.getLsbD 7 != a.getLsbD 7) true (decide (a.toNat < v.toNat))

/-- `A and v` (R295). -/
def and8 (a v : Byte) : Res8 := { r := a &&& v, f := szxypF (a &&& v) true false false }

/-- `A xor v` (R296). -/
def xor8 (a v : Byte) : Res8 := { r := a ^^^ v, f := szxypF (a ^^^ v) false false false }

/-- `A or v` (R297). -/
def or8 (a v : Byte) : Res8 := { r := a ||| v, f := szxypF (a ||| v) false false false }

/-- `v + 1`, C kept (R300). -/
def inc8 (v f : Byte) : Res8 :=
  { r := v + 1, f := szxyF (v + 1) (v.extractLsb' 0 4 == 15#4) (v == 0x7F) false (flagC f) }

/-- `v − 1`, C kept (R304). -/
def dec8 (v f : Byte) : Res8 :=
  { r := v - 1, f := szxyF (v - 1) (v.extractLsb' 0 4 == 0#4) (v == 0x80) true (flagC f) }

/-! ## General control (R320 to R324) -/

/-- The correction DAA applies and the carry it leaves (R320). -/
def daaCorrection (a f : Byte) : Byte × Bool :=
  let low : Byte := if flagH f || decide (9 < a.toNat % 16) then 0x06 else 0
  if flagC f || decide (0x99 < a.toNat) then (low ||| 0x60, true) else (low, false)

/-- DAA (R320). -/
def daa8 (a f : Byte) : Res8 :=
  let t := (daaCorrection a f).1
  let c := (daaCorrection a f).2
  let r := if flagN f then a - t else a + t
  let h := if flagN f then flagH f && decide (a.toNat % 16 < 6) else decide (9 < a.toNat % 16)
  { r := r, f := szxypF r h (flagN f) c }

/-- CPL (R321). -/
def cpl8 (a f : Byte) : Res8 :=
  let r := a ^^^ 0xFF
  { r := r, f := packF (flagS f) (flagZ f) (r.getLsbD 5) true (r.getLsbD 3) (flagPV f) true (flagC f) }

/-- NEG (R322): SUB with A = 0. -/
def neg8 (a : Byte) : Res8 := sub8 0 a false

/-- F after CCF (R323). -/
def ccf8 (a f : Byte) : Byte :=
  packF (flagS f) (flagZ f) (a.getLsbD 5) (flagC f) (a.getLsbD 3) (flagPV f) false (!flagC f)

/-- F after SCF (R324). -/
def scf8 (a f : Byte) : Byte := packF (flagS f) (flagZ f) (a.getLsbD 5) false (a.getLsbD 3) (flagPV f) false true

/-! ## 16-bit arithmetic (R350 to R353) -/

/-- ADD HL,rr (R350): S, Z and PV are kept. -/
def add16 (a v : Word) (f : Byte) : Res16 :=
  let r := a + v
  { r := r
    f := packF (flagS f) (flagZ f) (r.getLsbD 13) (decide (4095 < a.toNat % 4096 + v.toNat % 4096)) (r.getLsbD 11)
      (flagPV f) false (decide (65535 < a.toNat + v.toNat)) }

/-- ADC HL,rr (R351). -/
def adc16 (a v : Word) (c : Bool) : Res16 :=
  let r := a + v + carryWord c
  { r := r
    f := packF (r.getLsbD 15) (r == 0) (r.getLsbD 13) (decide (4095 < a.toNat % 4096 + v.toNat % 4096 + c.toNat))
      (r.getLsbD 11) (a.getLsbD 15 == v.getLsbD 15 && r.getLsbD 15 != a.getLsbD 15) false
      (decide (65535 < a.toNat + v.toNat + c.toNat)) }

/-- SBC HL,rr (R352). -/
def sbc16 (a v : Word) (c : Bool) : Res16 :=
  let r := a - v - carryWord c
  { r := r
    f := packF (r.getLsbD 15) (r == 0) (r.getLsbD 13) (decide (a.toNat % 4096 < v.toNat % 4096 + c.toNat))
      (r.getLsbD 11) (a.getLsbD 15 != v.getLsbD 15 && r.getLsbD 15 != a.getLsbD 15) true
      (decide (a.toNat < v.toNat + c.toNat)) }

/-! ## Rotates and shifts (R380 to R395) -/

/-- The byte a rotate or shift leaves and the bit it shifts out (R384 to R391); `c` is the old carry. -/
def rotate (o : Rot) (v : Byte) (c : Bool) : Byte × Bool :=
  match o with
  | .rlc => (v <<< 1 ||| carryByte (v.getLsbD 7), v.getLsbD 7)
  | .rrc => (v >>> 1 ||| carryByte (v.getLsbD 0) <<< 7, v.getLsbD 0)
  | .rl => (v <<< 1 ||| carryByte c, v.getLsbD 7)
  | .rr => (v >>> 1 ||| carryByte c <<< 7, v.getLsbD 0)
  | .sla => (v <<< 1, v.getLsbD 7)
  | .sra => (v >>> 1 ||| carryByte (v.getLsbD 7) <<< 7, v.getLsbD 0)
  | .sll => (v <<< 1 ||| 1, v.getLsbD 7)
  | .srl => (v >>> 1, v.getLsbD 0)

/-- A CB rotate or shift (R384 to R391). -/
def rot8 (o : Rot) (v f : Byte) : Res8 :=
  { r := (rotate o v (flagC f)).1, f := szxypF (rotate o v (flagC f)).1 false false (rotate o v (flagC f)).2 }

/-- An accumulator rotate (R380 to R383): S, Z and PV are kept. -/
def rotA (o : Rot) (a f : Byte) : Res8 :=
  let r := (rotate o a (flagC f)).1
  { r := r
    f := packF (flagS f) (flagZ f) (r.getLsbD 5) false (r.getLsbD 3) (flagPV f) false (rotate o a (flagC f)).2 }

/-- F after RLD or RRD, which leave `a` in A (R394, R395): C is kept. -/
def digitF (a f : Byte) : Byte := szxypF a false false (flagC f)

/-! ## Bits (R410 to R418) -/

/-- `1 << b`. -/
def bitMask (b : BitVec 3) : Byte := 1 <<< b.toNat

/-- `v and not (1 << b)` (R412). -/
def resBit (b : BitVec 3) (v : Byte) : Byte := v &&& ~~~bitMask b

/-- `v or (1 << b)` (R414). -/
def setBit (b : BitVec 3) (v : Byte) : Byte := v ||| bitMask b

/-- F after BIT b of `v`, with Y and X given (R410, R411, R413): C is kept. -/
def bitF (b : BitVec 3) (v f : Byte) (y x : Bool) : Byte :=
  let t := v.getLsbD b.toNat
  packF (b == 7 && t) (!t) y true x (!t) false (flagC f)

/-! ## Blocks, ports and LD A,I -/

/-- F after LDI or LDD: `v` was moved and `more` says BC ≠ 0 (R265). S, Z and C are kept. -/
def ldBlockF (a v f : Byte) (more : Bool) : Byte :=
  let n := v + a
  packF (flagS f) (flagZ f) (n.getLsbD 1) false (n.getLsbD 3) more false (flagC f)

/-- F after CPI or CPD: `v` was compared and `more` says BC ≠ 0 (R267). C is kept. -/
def cpBlockF (a v f : Byte) (more : Bool) : Byte :=
  let r := a - v
  let h := decide (a.toNat % 16 < v.toNat % 16)
  let n := r - carryByte h
  packF (r.getLsbD 7) (r == 0) (n.getLsbD 1) h (n.getLsbD 3) more true (flagC f)

/-- F after `IN r,(C)` of `v` (R481): C is kept. -/
def inF (v f : Byte) : Byte := szxypF v false false (flagC f)

/-- The block I/O flags (R494): `v` was moved, `k` is the rule's sum and `b` the new B. -/
def ioBlockF (v b : Byte) (k : Nat) : Byte :=
  let c := decide (255 < k)
  szxyF b c (parity ((BitVec.ofNat 8 k &&& 7) ^^^ b)) (v.getLsbD 7) c

/-- F after `LD A,I` or `LD A,R` leaves `a` in A (R214): PV is IFF2, Y and X are given, C is kept. -/
def ldAIF (a f : Byte) (iff2 y x : Bool) : Byte := packF (a.getLsbD 7) (a == 0) y false x iff2 false (flagC f)

end Sys2Proof.Machine
end

