-- ==== Sys2Proof/Config.lean ====
section
/-! DEFINITION. What is fixed for one machine: the named parameters of spec/00_scope.md R8 as plain data (a state carries
its own, so a statement about a state holds for every value of them), their defaults, and the free values the spec leaves
open, which have no body. -/

namespace Sys2Proof

/-- `HW_VARIANT` (R8, D24): a 48K machine has no bank latch, a 128K machine has one. -/
inductive Variant where
  | m48 | m128
deriving DecidableEq, Repr

/-- The ROM kinds of R85: the 128K editor ROM, the 48K BASIC ROM and the disk-boot ROM. -/
inductive RomKind where
  | rom0 | rom1 | disk
deriving DecidableEq, Repr

/-- `R_INCREMENT_MODE` (R8, R163, D6). -/
inductive RefreshMode where
  | perStepAfter | perM1
deriving DecidableEq, Repr

/-- `LDAIR_XY_SOURCE` (R8, R214, D35). -/
inductive XySource where
  | memptrHigh | result
deriving DecidableEq, Repr

/-- `VIDEO_GEOMETRY` (R8, R561, D46: OPEN). A frame is `vblankLines` lines of blanking, `topLines` border lines, 192 paper
lines and `bottomLines` border lines; a line starts at its left border, a paper line holds 32 cells of `tPerCell` T-states,
and what is left of `tPerLine` after the right border is horizontal blanking. DESIGN CHOICE, unsafe: assumption 21. -/
structure VideoGeometry where
  tPerLine : Nat
  tPerCell : Nat
  vblankLines : Nat
  topLines : Nat
  bottomLines : Nat
  leftT : Nat
  rightT : Nat
deriving DecidableEq, Repr

/-- `FDC_TIMING` (R8, R565, D43: OPEN), in T-states, and the length in bytes of a raw track. A step rate of 0 counts as 1
(assumption 22). -/
structure FdcTiming where
  stepRate : Nat
  settle : Nat
  headLoad : Nat
  drqPeriod : Nat
  drqWidth : Nat
  trackBytes : Nat
deriving DecidableEq, Repr

/-- `AY_TABLES` (R8, R568, D44: OPEN): the sixteen output levels, the LFSR bits whose exclusive or is shifted in, and the
LFSR seed. The envelope table is no parameter: R568 constructs it. -/
structure AyTables where
  volume : Vector Nat 16
  lfsrTaps : BitVec 17
  lfsrSeed : BitVec 17
deriving DecidableEq, Repr

/-- The mixer modes of R568. -/
inductive PanMode where
  | abc | acb | mono
deriving DecidableEq, Repr

/-- `AUDIO_CONFIG` (R8, R568, D44: OPEN). `ayStep` is how far an AY counter moves in one sample; a counter's limit is
its programmed period times `ayScale`. The pan matrix is made of three gains, `near`, `centre` and `far`, and the last three
fields are the levels the beeper, the MIC output and the cassette input add while they are 1: DESIGN CHOICE, assumption 44. -/
structure AudioConfig where
  cpuClock : Nat
  sampleRate : Nat
  ayStep : Nat
  ayScale : Nat
  pan : PanMode
  cutoff : Nat
  near : Nat
  centre : Nat
  far : Nat
  beeperLevel : Nat
  micLevel : Nat
  earLevel : Nat
deriving DecidableEq, Repr

/-- `TAPE_TIMING` (R8, R569, D45): pulse widths and the silence length in T-states, and the two pilot counts. -/
structure TapeTiming where
  silence : Nat
  pilot : Nat
  pilotHeader : Nat
  pilotData : Nat
  sync1 : Nat
  sync2 : Nat
  bit0 : Nat
  bit1 : Nat
deriving DecidableEq, Repr

/-- A row of the cost table that differs from spec/opcode_table.json: the row's number, counted from 0, its `tstates` and
its `tstates_taken`. -/
structure CostRow where
  row : Nat
  tstates : Nat
  taken : Nat
deriving DecidableEq, Repr

/-- The parameters of R8. `TSTATES` is the table of spec/opcode_table.json with the rows of `tstates` put in its place;
`ACCESS_CLK` is the counter at the start of the step plus `accessOffset` (D15); `TRAP_EXIT` is the lowest address whose opcode
fetch leaves the disk ROM (R91, D28). `RESET_UNSPEC` is `Config.unspecified`. How the first two are represented, and what a
bank number from `RAM_BANKS` upward does, is the model's: DESIGN CHOICE, assumption 8. -/
structure Params where
  variant : Variant
  frameBudget : Nat
  ramBanks : Nat
  intBusByte : Byte
  eiShadow : Bool
  refreshMode : RefreshMode
  xySource : XySource
  unownedPortByte : Byte
  outCZero : Byte
  tstates : List CostRow
  accessOffset : Nat
  trapLoci : List Word
  trapRom : RomKind
  diskRom : RomKind
  trapExit : Word
  video : VideoGeometry
  fdc : FdcTiming
  ayTables : AyTables
  audio : AudioConfig
  tape : TapeTiming
deriving DecidableEq, Repr

/-- `RAM_BANKS` of a variant (R84). -/
def Variant.ramBanks (v : Variant) : Nat :=
  match v with
  | .m48 => 3
  | .m128 => 8

/-- The defaults of R8 for a variant. Where R8 gives none (OPEN) the value is the model's: DESIGN CHOICE, unsafe, assumptions
20 to 24. -/
def Params.ofVariant (v : Variant) : Params where
  variant := v
  frameBudget := 70908
  ramBanks := v.ramBanks
  intBusByte := 0xFF
  eiShadow := true
  refreshMode := .perStepAfter
  xySource := .memptrHigh
  unownedPortByte := 0xFF
  outCZero := 0x00
  tstates := []
  accessOffset := 0
  trapLoci := [0x3D00]
  trapRom := .rom1
  diskRom := .disk
  trapExit := 0x4000
  video := { tPerLine := 228, tPerCell := 4, vblankLines := 15, topLines := 48, bottomLines := 56, leftT := 24, rightT := 24 }
  fdc := { stepRate := 21000, settle := 52500, headLoad := 105000, drqPeriod := 112, drqWidth := 112, trackBytes := 6250 }
  ayTables :=
    { volume := #v[0, 1, 2, 3, 4, 6, 8, 11, 16, 23, 32, 45, 64, 90, 128, 180], lfsrTaps := 0x00009, lfsrSeed := 0x00001 }
  audio :=
    { cpuClock := 3546900, sampleRate := 44100, ayStep := 5, ayScale := 1, pan := .abc, cutoff := 20000
      near := 4, centre := 3, far := 1, beeperLevel := 128, micLevel := 32, earLevel := 32 }
  tape :=
    { silence := 3500000, pilot := 2168, pilotHeader := 8063, pilotData := 3223, sync1 := 667, sync2 := 735, bit0 := 855,
      bit1 := 1710 }

/-- The defaults of R8: a 128K machine. -/
def Params.default : Params := Params.ofVariant .m128

/-- The byte injected into the trap overlay (R85): the spec names it and gives it no value. Free; no fetch returns it
(R88). -/
opaque Config.trapByte : Byte

/-- Bytes the floppy controller hands over or stores where the spec states no value (assumption 31). Free. -/
opaque Config.fdcByte : Nat → Byte

/-- The index bit of a Type I status (R565): the disk's rotation is not specified (assumption 31). Free. -/
opaque Config.fdcIndex : Nat → Bool

/-- `RESET_UNSPEC` (R8, R51) at a later host reset and MEMPTR after a snapshot load (R585): assumption 37. Free. -/
opaque Config.unspecified : Nat → Word

end Sys2Proof
end

