-- ==== Sys2Proof/Machine/State.lean ====
section
/-! DEFINITION. The state of the machine: everything spec/10_state.md, 20_memory.md and 60_exceptions.md give it, as plain
data; the reasons a step can stop; and the state right after reset. -/

namespace Sys2Proof.Machine

/-- Memory: (physical address, byte) pairs. The canonical form (`Memory.wf`) lists strictly rising addresses and no byte
that an unlisted address reads as. Page `p` holds the physical addresses `p * 16384` to `p * 16384 + 16383` (R81, R82). -/
abbrev Memory := List Host.Cell

/-- The interrupt modes (R43). -/
inductive IntMode where
  | im0 | im1 | im2
deriving DecidableEq, Repr

/-- The CPU core (spec/10_state.md R30 to R48). A primed name is the alternate register (R31). -/
structure Cpu where
  a : Byte
  f : Byte
  b : Byte
  c : Byte
  d : Byte
  e : Byte
  h : Byte
  l : Byte
  a' : Byte
  f' : Byte
  b' : Byte
  c' : Byte
  d' : Byte
  e' : Byte
  h' : Byte
  l' : Byte
  ix : Word
  iy : Word
  sp : Word
  pc : Word
  /-- the address latch that BIT and LD A,I/R expose (R44) -/
  memptr : Word
  /-- the interrupt-vector register (R40) -/
  i : Byte
  /-- bit 7 of R, written by LD R,A only (R41) -/
  rhi : Bool
  /-- bits 6:0 of R, the counter (R41) -/
  rlo : BitVec 7
  iff1 : Bool
  iff2 : Bool
  im : IntMode
  halted : Bool
  /-- `int_block`: the last step was EI or a redundant prefix (R46) -/
  intBlock : Bool
  /-- T-states since the start of the frame (R47) -/
  clk : Int
deriving DecidableEq, Repr

/-- The ULA: port latches, raster and keyboard input (R561). -/
structure Ula where
  border : BitVec 3
  mic : Bool
  beeper : Bool
  /-- raster cursor: how many segments of the frame's timeline have been drawn -/
  cursor : Nat
  flash : Bool
  frames : Nat
  baseline : Int
  /-- the eight keyboard half-rows, active low, set by the host; row k is selected by port bit 8 + k -/
  keys : Vector (BitVec 5) 8
deriving DecidableEq, Repr

/-- One tone generator (R568): its phase accumulator and its output level. -/
structure Tone where
  count : Nat
  out : Bool
deriving DecidableEq, Repr

/-- The sound synthesiser (R567, R568). -/
structure Ay where
  regs : Vector Byte 16
  sel : BitVec 4
  baseline : Int
  toneA : Tone
  toneB : Tone
  toneC : Tone
  noiseCount : Nat
  lfsr : BitVec 17
  envCount : Nat
  envStep : BitVec 5
deriving DecidableEq, Repr

/-- One of the four drives (R564, R566): head position, head-load state, write protection, and the image or none. -/
structure Drive where
  head : Nat
  headLoaded : Bool
  writeProtect : Bool
  media : Option Memory
deriving DecidableEq, Repr

/-- What a Type II or III command transfers (R565). -/
inductive Transfer where
  | readSector | writeSector | readAddress | readTrack | writeTrack
deriving DecidableEq, Repr

/-- The controller's sub-states (R565). -/
inductive FdcPhase where
  /-- no command active -/
  | idle
  /-- a Type I command with step pulses left; true steps toward track 79 -/
  | stepping (pending : Nat) (inward : Bool)
  /-- a Type I command's head-load settle delay before its check -/
  | verifying
  /-- a Type II or III command that raises DRQ after `delay` T-states -/
  | waiting (x : Transfer) (delay : Nat)
  /-- DRQ is raised and waits to be serviced -/
  | request (x : Transfer)
deriving DecidableEq, Repr

/-- Which layout the status register has (R565). -/
inductive StatusKind where
  | afterReset | typeI | typeIIorIII
deriving DecidableEq, Repr

/-- The floppy controller and its drives (R564, R565). `status` holds bits 6 to 0; bit 7, not ready, follows the selected
drive. While the layout is that of Type I, bits 6, 5 and 2 follow the drive and bit 1 is free, so only bits 4, 3 and 0 are
held. -/
structure Fdc where
  command : Byte
  status : Byte
  statusKind : StatusKind
  track : Byte
  sector : Byte
  data : Byte
  system : Byte
  phase : FdcPhase
  /-- T-states consumed in the present phase -/
  elapsed : Nat
  /-- the byte cursor of the transfer -/
  cursor : Nat
  /-- the last Type I direction, which a Step command repeats -/
  inward : Bool
  intrq : Bool
  baseline : Int
  drives : Vector Drive 4
  /-- the model's own counter of free values drawn (assumption 31) -/
  draws : Nat
deriving DecidableEq, Repr

/-- The tape deck's states (R569). -/
inductive TapePhase where
  | stop
  | silence
  /-- pilot pulses left -/
  | pilot (left : Nat)
  | sync1
  | sync2
  /-- byte of the block, bit of the byte (7 first) and which of the bit's two pulses is playing -/
  | data (byte : Nat) (bit : Nat) (second : Bool)
deriving DecidableEq, Repr

/-- The tape deck (R569). `pos` is where the current block's length prefix stands in the image. -/
structure Tape where
  image : List Byte
  pos : Nat
  phase : TapePhase
  elapsed : Nat
  latch : Bool
  baseline : Int
deriving DecidableEq, Repr

/-- The two disk-image formats of R566: flat sectors, and the directory-compressed "SINCLAIR" format. -/
inductive DiskFormat where
  | raw | compressed
deriving DecidableEq, Repr

/-- The hardware variant, CPU registers, bank latch, AY registers and numbered RAM pages a snapshot carries (R585). -/
structure Snapshot where
  variant : Variant
  cpu : Cpu
  latch : Byte
  ayRegs : Vector Byte 16
  pages : List (Nat × List Byte)
deriving DecidableEq, Repr

/-- What the host may do between two frames (R584, R569, R561). -/
inductive HostAction where
  | nmi
  | reset
  | tapePlay
  | tapeStop
  | tapeRewind
  | tapeLoad (image : List Byte)
  | tapeSave
  | diskLoad (drive : Fin 4) (format : DiskFormat) (bytes : List Byte) (writeProtect : Bool)
  | diskSave (drive : Fin 4)
  | diskEject (drive : Fin 4)
  | keys (rows : Vector (BitVec 5) 8)
  | snapshotLoad (snap : Snapshot)
  | snapshotSave
deriving DecidableEq, Repr

/-- Why a load or save call fails (R521). A protocol violation is absorbed and never reported. -/
inductive HostError where
  /-- a file whose size does not match -/
  | ioError
  /-- a bad signature, an out-of-range directory, a page layout that does not match its mode -/
  | formatError
  /-- no image is loaded -/
  | mediaAbsent
deriving DecidableEq, Repr

/-- What a host call answers (R584): nothing, success, what a save call wrote, or a failure. -/
inductive HostAnswer where
  | done
  | loaded
  | saved (bytes : List Byte)
  | savedSnapshot (snap : Snapshot)
  | failed (error : HostError)
deriving DecidableEq, Repr

/-- The machine. Slot 0 shows ROM `rom` and slot 3 RAM page `ram3`; the other entries of the slot tables of R82 are fixed
by R83, so these two fields are the tables. -/
structure State where
  cpu : Cpu
  mem : Memory
  rom : RomKind
  ram3 : BitVec 3
  /-- the bank latch (R94) -/
  latch : Byte
  ula : Ula
  ay : Ay
  fdc : Fdc
  tape : Tape
  /-- the model's own queue of host actions, done at the next frame boundary (assumption 26) -/
  pending : List HostAction
  /-- the model's own record of what the host calls of the last frame boundary answered, in call order (assumption 26) -/
  answers : List HostAnswer
  /-- the model's own counter of free values drawn by host actions -/
  draws : Nat
  /-- the machine's parameters (R8); no step changes them -/
  params : Params
deriving DecidableEq, Repr

/-- Why a step faults: never. The core has no synchronous exception and no access fault (R103, R520). -/
inductive Fault where
deriving DecidableEq, Repr

/-- Why a step is refused. All are safe: the model stops where the spec gives no effect. -/
inductive Refusal where
  /-- raised by an arm of `exec` whose instruction has no meaning yet -/
  | notModelled (mnemonic : String)
  /-- raised by an interrupt acceptance in mode 0 whose bus byte is no RST opcode (R533, D10) -/
  | im0BusByteNotRst
  /-- raised by an escape term whose inner instruction no index prefix escapes into (R151); no decoded instruction is one -/
  | illFormedEscape
  /-- raised by a fetch whose bytes do not decode; no fetch is one (R155) -/
  | undecodable
deriving DecidableEq, Repr

/-- A tone generator after reset (R601). -/
def Tone.reset : Tone := { count := 0, out := false }

/-- A drive as constructed: head at track 0, no media. DESIGN CHOICE, unsafe: assumption 2. -/
def Drive.reset : Drive := { head := 0, headLoaded := false, writeProtect := false, media := none }

/-- The CPU after reset (R51). The registers R51 leaves unspecified hold 0: DESIGN CHOICE, unsafe, assumption 1. -/
def Cpu.reset : Cpu where
  a := 0xFF
  f := 0xFF
  b := 0
  c := 0
  d := 0
  e := 0
  h := 0
  l := 0
  a' := 0
  f' := 0
  b' := 0
  c' := 0
  d' := 0
  e' := 0
  h' := 0
  l' := 0
  ix := 0
  iy := 0
  sp := 0xFFFF
  pc := 0x0000
  memptr := 0
  i := 0x00
  rhi := false
  rlo := 0
  iff1 := false
  iff2 := false
  im := .im0
  halted := false
  intBlock := false
  clk := 0

/-- The ULA after reset (R601); no key is pressed. -/
def Ula.reset : Ula where
  border := 0
  mic := false
  beeper := false
  cursor := 0
  flash := false
  frames := 0
  baseline := 0
  keys := #v[0x1F, 0x1F, 0x1F, 0x1F, 0x1F, 0x1F, 0x1F, 0x1F]

/-- The AY after reset, with the LFSR at its seed (R601). -/
def Ay.reset (seed : BitVec 17) : Ay where
  regs := #v[0, 0, 0, 0, 0, 0, 0, 0, 0, 0, 0, 0, 0, 0, 0, 0]
  sel := 0
  baseline := 0
  toneA := Tone.reset
  toneB := Tone.reset
  toneC := Tone.reset
  noiseCount := 0
  lfsr := seed
  envCount := 0
  envStep := 0

/-- The floppy controller after reset (R601). -/
def Fdc.reset : Fdc where
  command := 0
  status := 0
  statusKind := .afterReset
  track := 0
  sector := 0
  data := 0
  system := 0
  phase := .idle
  elapsed := 0
  cursor := 0
  inward := false
  intrq := false
  baseline := 0
  drives := #v[Drive.reset, Drive.reset, Drive.reset, Drive.reset]
  draws := 0

/-- The tape deck after reset with no tape loaded (R601). -/
def Tape.reset : Tape where
  image := []
  pos := 0
  phase := .stop
  elapsed := 0
  latch := false
  baseline := 0

/-- The ROM the reset latch value selects (R110). -/
def resetRom (v : Variant) : RomKind :=
  match v with
  | .m128 => .rom0
  | .m48 => .rom1

/-- The machine with parameters `p` right after construction and reset (R51, R110, R600, R601), nothing loaded. -/
def State.resetWith (p : Params) : State where
  cpu := Cpu.reset
  mem := []
  rom := resetRom p.variant
  ram3 := 0
  latch := 0
  ula := Ula.reset
  ay := Ay.reset p.ayTables.lfsrSeed
  fdc := Fdc.reset
  tape := Tape.reset
  pending := []
  answers := []
  draws := 0
  params := p

/-- The machine with the default parameters right after reset. -/
def State.reset : State := State.resetWith Params.default

end Sys2Proof.Machine
end

