-- ==== Sys2Proof/Machine/Memory.lean ====
section
/-! DEFINITION. Operations on a memory: reading, writing, and the canonical form; and the pages of spec/20_memory.md R81 to
R85 as ranges of physical addresses. -/

namespace Sys2Proof.Machine

/-- What an unlisted physical address reads as. RAM is unspecified after construction (R110) and no ROM image is loaded
yet: DESIGN CHOICE, unsafe, assumption 3. -/
def Memory.blank : Byte := 0

/-- The byte at a physical address. -/
def Memory.read : Memory → Nat → Byte
  | [], _ => Memory.blank
  | (k, v) :: m, a => if k = a then v else Memory.read m a

/-- The memory without an entry for `a`. -/
def Memory.erase : Memory → Nat → Memory
  | [], _ => []
  | (k, v) :: m, a => if k = a then Memory.erase m a else (k, v) :: Memory.erase m a

/-- The memory with a new entry at its place in the order. -/
def Memory.insert : Memory → Nat → Byte → Memory
  | [], a, v => [(a, v)]
  | (k, w) :: m, a, v => if a < k then (a, v) :: (k, w) :: m else (k, w) :: Memory.insert m a v

/-- The memory with `v` at `a`; writing what an unlisted address reads as removes the entry. -/
def Memory.write (m : Memory) (a : Nat) (v : Byte) : Memory :=
  if v = Memory.blank then Memory.erase m a else Memory.insert (Memory.erase m a) a v

/-- Strictly rising addresses from `lo` on, and no entry an unlisted address reads as. -/
def Memory.wfFrom : Nat → Memory → Bool
  | _, [] => true
  | lo, (k, v) :: m => decide (lo ≤ k) && v != Memory.blank && Memory.wfFrom (k + 1) m

/-- The canonical form. -/
def Memory.wf (m : Memory) : Bool := Memory.wfFrom 0 m

/-- Every listed address is below `n`. -/
def Memory.below (n : Nat) : Memory → Bool
  | [] => true
  | (k, _) :: m => decide (k < n) && Memory.below n m

/-- The memory that holds a list of bytes from `a` upward. -/
def Memory.ofBytes : Nat → List Byte → Memory
  | _, [] => []
  | a, v :: vs => if v = Memory.blank then Memory.ofBytes (a + 1) vs else (a, v) :: Memory.ofBytes (a + 1) vs

/-- The entries from address `lo` upward. -/
def Memory.above (m : Memory) (lo : Nat) : Memory := m.filter fun c => decide (lo ≤ c.1)

/-! ## Pages -/

/-- The size of a page (R81). -/
def pageSize : Nat := 16384

/-- The page of RAM bank `n` (R84); a 48K machine uses banks 5, 2 and 0. -/
def ramPage (n : BitVec 3) : Nat := n.toNat

/-- The page of a ROM (R85). -/
def romPage (k : RomKind) : Nat :=
  match k with
  | .rom0 => 8
  | .rom1 => 9
  | .disk => 10

/-- The null sink (R81, R83). -/
def sinkPage : Nat := 11

/-- How many pages there are. -/
def pageCount : Nat := 12

/-- `slot(a) = a[15:14]` (R82). -/
def slotOf (a : Word) : Nat := a.toNat / 16384

/-- `off(a) = a[13:0]` (R82). -/
def offOf (a : Word) : Nat := a.toNat % 16384

/-- The physical address of offset `off` in a page. -/
def physical (page off : Nat) : Nat := page * pageSize + off

/-- The `read` table (R82, R83). -/
def State.readPage (s : State) (slot : Nat) : Nat :=
  match slot with
  | 0 => romPage s.rom
  | 1 => ramPage 5
  | 2 => ramPage 2
  | _ => ramPage s.ram3

/-- The `write` table (R82, R83): slot 0 is the null sink. -/
def State.writePage (s : State) (slot : Nat) : Nat :=
  match slot with
  | 0 => sinkPage
  | 1 => ramPage 5
  | 2 => ramPage 2
  | _ => ramPage s.ram3

/-- `exec[0]` holds the trap overlay (R83, R85, R93). -/
def State.overlayActive (s : State) : Bool := s.rom == s.params.trapRom

/-- Where `MemRead` reads address `a` (R86). -/
def State.readLoc (s : State) (a : Word) : Nat := physical (s.readPage (slotOf a)) (offOf a)

/-- Where `MemWrite` writes address `a` (R87). -/
def State.writeLoc (s : State) (a : Word) : Nat := physical (s.writePage (slotOf a)) (offOf a)

/-- `MemRead(a, 1)` (R86). -/
def State.readByte (s : State) (a : Word) : Byte := Memory.read s.mem (s.readLoc a)

/-- The byte the execute mapping holds at `a` (R83, R85): the page's byte, or the injected one at a locus of the overlay. -/
def State.execByte (s : State) (a : Word) : Byte :=
  if s.overlayActive && slotOf a == 0 && s.params.trapLoci.contains a then Config.trapByte else s.readByte a

/-- `MemRead(a, 2)`, little-endian (R95). -/
def State.readWord (s : State) (a : Word) : Word := Word.ofBytes (s.readByte (a + 1)) (s.readByte a)

end Sys2Proof.Machine
end

