-- ==== Sys2Proof/Machine/Operands.lean ====
section
/-! DEFINITION. The registers and the operand forms (spec/10_state.md R30 to R49; spec/30_encoding.md R140 to R144, R150):
every read and write of a register by an instruction goes through this file. -/

namespace Sys2Proof.Machine

/-! ## Single registers -/

/-- `A <- v`. -/
def State.setA (s : State) (v : Byte) : State := { s with cpu := { s.cpu with a := v } }
/-- `F <- v`. -/
def State.setF (s : State) (v : Byte) : State := { s with cpu := { s.cpu with f := v } }
/-- `B <- v`. -/
def State.setB (s : State) (v : Byte) : State := { s with cpu := { s.cpu with b := v } }
/-- `C <- v`. -/
def State.setC (s : State) (v : Byte) : State := { s with cpu := { s.cpu with c := v } }
/-- `D <- v`. -/
def State.setD (s : State) (v : Byte) : State := { s with cpu := { s.cpu with d := v } }
/-- `E <- v`. -/
def State.setE (s : State) (v : Byte) : State := { s with cpu := { s.cpu with e := v } }
/-- `H <- v`. -/
def State.setH (s : State) (v : Byte) : State := { s with cpu := { s.cpu with h := v } }
/-- `L <- v`. -/
def State.setL (s : State) (v : Byte) : State := { s with cpu := { s.cpu with l := v } }
/-- `IX <- v`. -/
def State.setIx (s : State) (v : Word) : State := { s with cpu := { s.cpu with ix := v } }
/-- `IY <- v`. -/
def State.setIy (s : State) (v : Word) : State := { s with cpu := { s.cpu with iy := v } }
/-- `SP <- v` (R33). -/
def State.setSp (s : State) (v : Word) : State := { s with cpu := { s.cpu with sp := v } }
/-- `PC <- v` (R34). -/
def State.setPc (s : State) (v : Word) : State := { s with cpu := { s.cpu with pc := v } }
/-- `MEMPTR <- v` (R44). -/
def State.setMemptr (s : State) (v : Word) : State := { s with cpu := { s.cpu with memptr := v } }
/-- `I <- v` (R40). -/
def State.setI (s : State) (v : Byte) : State := { s with cpu := { s.cpu with i := v } }
/-- `IFF1 <- v` (R42). -/
def State.setIff1 (s : State) (v : Bool) : State := { s with cpu := { s.cpu with iff1 := v } }
/-- `IFF2 <- v` (R42). -/
def State.setIff2 (s : State) (v : Bool) : State := { s with cpu := { s.cpu with iff2 := v } }
/-- `IM <- m` (R43). -/
def State.setIm (s : State) (m : IntMode) : State := { s with cpu := { s.cpu with im := m } }
/-- `halted <- v` (R45). -/
def State.setHalted (s : State) (v : Bool) : State := { s with cpu := { s.cpu with halted := v } }
/-- `int_block <- v` (R46). -/
def State.setIntBlock (s : State) (v : Bool) : State := { s with cpu := { s.cpu with intBlock := v } }

/-- `tick(n)` (R48). -/
def State.tick (s : State) (n : Nat) : State := { s with cpu := { s.cpu with clk := s.cpu.clk + (n : Int) } }

/-- `ACCESS_CLK` (R8, R109, R613): the clock value of every access inside an instruction. `clk` is the counter at the start
of the step until the instruction's tick, so the default is that counter itself. -/
def State.accessClk (s : State) : Int := s.cpu.clk + (s.params.accessOffset : Int)

/-! ## R (R41) -/

/-- `{Rhi, Rlo}`. -/
def State.rReg (s : State) : Byte := BitVec.ofBool s.cpu.rhi ++ s.cpu.rlo

/-- `Rhi <- v[7]; Rlo <- v[6:0]`. -/
def State.setR (s : State) (v : Byte) : State :=
  { s with cpu := { s.cpu with rhi := v.getLsbD 7, rlo := v.extractLsb' 0 7 } }

/-- `n` increments of `Rlo`; bit 7 of R is never counted (R41, R163). -/
def State.refresh (s : State) (n : Nat) : State :=
  { s with cpu := { s.cpu with rlo := s.cpu.rlo + BitVec.ofNat 7 n } }

/-! ## Pairs (R30) -/

/-- BC. -/
def State.bc (s : State) : Word := Word.ofBytes s.cpu.b s.cpu.c
/-- DE. -/
def State.de (s : State) : Word := Word.ofBytes s.cpu.d s.cpu.e
/-- HL. -/
def State.hl (s : State) : Word := Word.ofBytes s.cpu.h s.cpu.l
/-- AF. -/
def State.af (s : State) : Word := Word.ofBytes s.cpu.a s.cpu.f

/-- `BC <- v`. -/
def State.setBc (s : State) (v : Word) : State := { s with cpu := { s.cpu with b := v.hi, c := v.lo } }
/-- `DE <- v`. -/
def State.setDe (s : State) (v : Word) : State := { s with cpu := { s.cpu with d := v.hi, e := v.lo } }
/-- `HL <- v`. -/
def State.setHl (s : State) (v : Word) : State := { s with cpu := { s.cpu with h := v.hi, l := v.lo } }
/-- `AF <- v`. -/
def State.setAf (s : State) (v : Word) : State := { s with cpu := { s.cpu with a := v.hi, f := v.lo } }

/-! ## Register fields (R35, R38) -/

/-- `x[r]` for an 8-bit register field. -/
def State.reg8 (s : State) (r : Reg8) : Byte :=
  match r with
  | .b => s.cpu.b
  | .c => s.cpu.c
  | .d => s.cpu.d
  | .e => s.cpu.e
  | .h => s.cpu.h
  | .l => s.cpu.l
  | .a => s.cpu.a

/-- `x[r] <- v` for an 8-bit register field. -/
def State.setReg8 (s : State) (r : Reg8) (v : Byte) : State :=
  match r with
  | .b => s.setB v
  | .c => s.setC v
  | .d => s.setD v
  | .e => s.setE v
  | .h => s.setH v
  | .l => s.setL v
  | .a => s.setA v

/-- `x[rp[p]]`. -/
def State.pair (s : State) (p : RegPair) : Word :=
  match p with
  | .bc => s.bc
  | .de => s.de
  | .hl => s.hl
  | .sp => s.cpu.sp

/-- `x[rp[p]] <- v`. -/
def State.setPair (s : State) (p : RegPair) (v : Word) : State :=
  match p with
  | .bc => s.setBc v
  | .de => s.setDe v
  | .hl => s.setHl v
  | .sp => s.setSp v

/-- `x[rp2[p]]`. -/
def State.stackPair (s : State) (q : StackPair) : Word :=
  match q with
  | .bc => s.bc
  | .de => s.de
  | .hl => s.hl
  | .af => s.af

/-- `x[rp2[p]] <- v`. -/
def State.setStackPair (s : State) (q : StackPair) (v : Word) : State :=
  match q with
  | .bc => s.setBc v
  | .de => s.setDe v
  | .hl => s.setHl v
  | .af => s.setAf v

/-! ## Index registers (R32, R142, R150) -/

/-- The index register `XY`. -/
def State.xy (s : State) (x : IdxReg) : Word :=
  match x with
  | .ix => s.cpu.ix
  | .iy => s.cpu.iy

/-- `XY <- v`. -/
def State.setXy (s : State) (x : IdxReg) (v : Word) : State :=
  match x with
  | .ix => s.setIx v
  | .iy => s.setIy v

/-- `XYH` or `XYL`. -/
def State.half (s : State) (x : IdxReg) (h : Half) : Byte :=
  match h with
  | .hi => (s.xy x).hi
  | .lo => (s.xy x).lo

/-- `XYH <- v` or `XYL <- v`; the other half keeps its value. -/
def State.setHalf (s : State) (x : IdxReg) (h : Half) (v : Byte) : State :=
  match h with
  | .hi => s.setXy x (Word.ofBytes v (s.xy x).lo)
  | .lo => s.setXy x (Word.ofBytes (s.xy x).hi v)

/-- `x[hx(k)]` (R218). -/
def State.hreg (s : State) (x : IdxReg) (r : HReg) : Byte :=
  match r with
  | .b => s.cpu.b
  | .c => s.cpu.c
  | .d => s.cpu.d
  | .e => s.cpu.e
  | .xh => s.half x .hi
  | .xl => s.half x .lo
  | .a => s.cpu.a

/-- `x[hx(k)] <- v` (R218). -/
def State.setHreg (s : State) (x : IdxReg) (r : HReg) (v : Byte) : State :=
  match r with
  | .b => s.setB v
  | .c => s.setC v
  | .d => s.setD v
  | .e => s.setE v
  | .xh => s.setHalf x .hi v
  | .xl => s.setHalf x .lo v
  | .a => s.setA v

/-- The source of `ADD XY,rr`: the `rpx` table (R38). -/
def State.idxPair (s : State) (x : IdxReg) (p : IdxPair) : Word :=
  match p with
  | .bc => s.bc
  | .de => s.de
  | .xy => s.xy x
  | .sp => s.cpu.sp

/-- `ea = mod16(XY + s8(d))` (R142). -/
def State.ea (s : State) (x : IdxReg) (d : Byte) : Word := s.xy x + d.sext

/-! ## Conditions (R39) -/

/-- `cond(cc)`: the test of F that a condition stands for. -/
def State.cond (s : State) (cc : Cond) : Bool :=
  match cc with
  | .nz => !s.cpu.f.getLsbD 6
  | .z => s.cpu.f.getLsbD 6
  | .nc => !s.cpu.f.getLsbD 0
  | .c => s.cpu.f.getLsbD 0
  | .po => !s.cpu.f.getLsbD 2
  | .pe => s.cpu.f.getLsbD 2
  | .p => !s.cpu.f.getLsbD 7
  | .m => s.cpu.f.getLsbD 7

/-! ## The alternate set (R31, R260 to R262) -/

/-- `EX AF,AF'` (R261). -/
def State.swapAf (s : State) : State :=
  { s with cpu := { s.cpu with a := s.cpu.a', f := s.cpu.f', a' := s.cpu.a, f' := s.cpu.f } }

/-- `EXX` (R262). -/
def State.swapBank (s : State) : State :=
  { s with
    cpu :=
      { s.cpu with
        b := s.cpu.b', c := s.cpu.c', d := s.cpu.d', e := s.cpu.e', h := s.cpu.h', l := s.cpu.l'
        b' := s.cpu.b, c' := s.cpu.c, d' := s.cpu.d, e' := s.cpu.e, h' := s.cpu.h, l' := s.cpu.l } }

end Sys2Proof.Machine
end

