-- ==== Sys2Proof/Machine/Ula.lean ====
section
/-! DEFINITION. The video controller (spec/60_exceptions.md R561, R562): the raster timeline, the keyboard and cassette port
byte, the floating bus, the frame end, and the decode of a displayed cell. Pixels drawn into a frame buffer are out of scope
(spec/00_scope.md R6 item 4); the raster cursor, which says how far the frame is drawn, is kept. -/

namespace Sys2Proof.Machine

/-- The paper lines of a frame and the cells of a paper line (R561). -/
def paperLines : Nat := 192
/-- The cells of a paper line (R561). -/
def paperCells : Nat := 32

/-- The clock as a position in the frame: the line and the T-state within it. A line of 0 T-states and a clock below 0:
assumption 21. -/
def beamAt (g : VideoGeometry) (clk : Int) : Nat × Nat := (clk.toNat / g.tPerLine, clk.toNat % g.tPerLine)

/-- The first paper line. -/
def firstPaperLine (g : VideoGeometry) : Nat := g.vblankLines + g.topLines

/-- The T-states of the paper part of a line. -/
def paperT (g : VideoGeometry) : Nat := paperCells * g.tPerCell

/-- The cell under the beam while the beam is in the paper region: its pixel row and column byte (R562). -/
def beamCell (g : VideoGeometry) (clk : Int) : Option (Nat × Nat) :=
  let line := (beamAt g clk).1
  let t := (beamAt g clk).2
  if firstPaperLine g ≤ line && line < firstPaperLine g + paperLines && g.leftT ≤ t && t < g.leftT + paperT g then
    some (line - firstPaperLine g, (t - g.leftT) / g.tPerCell)
  else none

/-- How many segments the visible lines before visible line `v` have: a border line is one segment, a paper line a left
border, its cells and a right border (R561). -/
def segmentsBefore (g : VideoGeometry) (v : Nat) : Nat :=
  min v g.topLines + min (v - g.topLines) paperLines * (paperCells + 2) +
    min (v - g.topLines - paperLines) g.bottomLines

/-- How many segments of visible line `v` the beam has passed at T-state `t` of it. -/
def segmentsInLine (g : VideoGeometry) (v t : Nat) : Nat :=
  if g.topLines ≤ v && v < g.topLines + paperLines then
    if t < g.leftT then 0
    else if t < g.leftT + paperT g then 1 + (t - g.leftT) / g.tPerCell
    else if t < g.leftT + paperT g + g.rightT then 1 + paperCells
    else 2 + paperCells
  else if v < g.topLines + paperLines + g.bottomLines then
    if t < g.leftT + paperT g + g.rightT then 0 else 1
  else 0

/-- How many segments of the timeline the beam has passed at a clock value (R561). -/
def segmentsPassed (g : VideoGeometry) (clk : Int) : Nat :=
  let line := (beamAt g clk).1
  if line < g.vblankLines then 0
  else segmentsBefore g (line - g.vblankLines) + segmentsInLine g (line - g.vblankLines) (beamAt g clk).2

/-- `syncTo(clk)` (R561): the raster cursor moves to the beam, never back. -/
def Ula.syncTo (u : Ula) (g : VideoGeometry) (clk : Int) : Ula :=
  { u with cursor := max u.cursor (segmentsPassed g clk), baseline := clk }

/-- A write to the port (R561): the raster is synchronised first. -/
def Ula.write (u : Ula) (g : VideoGeometry) (clk : Int) (v : Byte) : Ula :=
  { u.syncTo g clk with border := v.extractLsb' 0 3, mic := v.getLsbD 3, beeper := v.getLsbD 4 }

/-- The keyboard bits of a read (R561): the AND of the half-rows whose select line is 0. -/
def Ula.keyBits (u : Ula) (port : Word) : BitVec 5 :=
  let row (k : Nat) (v : BitVec 5) : BitVec 5 := if port.getLsbD (8 + k) then BitVec.allOnes 5 else v
  row 0 u.keys[0] &&& row 1 u.keys[1] &&& row 2 u.keys[2] &&& row 3 u.keys[3] &&& row 4 u.keys[4] &&&
    row 5 u.keys[5] &&& row 6 u.keys[6] &&& row 7 u.keys[7]

/-- The byte a read answers (R561): bits 7 and 5 are 1, bit 6 is the cassette-input latch. -/
def Ula.portByte (u : Ula) (port : Word) (tapeLatch : Bool) : Byte :=
  BitVec.ofBool true ++ BitVec.ofBool tapeLatch ++ BitVec.ofBool true ++ u.keyBits port

/-- `onFrameEnd()` and the rebase of the baseline (R561, R570). -/
def Ula.frameEnd (u : Ula) (budget : Nat) : Ula :=
  { u with
    cursor := 0
    frames := u.frames + 1
    flash := if (u.frames + 1) % 16 = 0 then !u.flash else u.flash
    baseline := u.baseline - (budget : Int) }

/-! ## The displayed page (R561) -/

/-- The page on display: RAM 5, or RAM 7 when the bank latch's screen bit is 1. -/
def State.displayPage (s : State) : Nat := if s.latch.getLsbD 3 then ramPage 7 else ramPage 5

/-- The pages that count as display memory: RAM 5, and RAM 7 when the screen bit is 1 (R87). -/
def State.isDisplayPage (s : State) (page : Nat) : Bool :=
  page == ramPage 5 || (s.latch.getLsbD 3 && page == ramPage 7)

/-- The offset of the bitmap byte of pixel row `y` and column byte `x`. -/
def bitmapOffset (y x : Nat) : Nat := y / 64 * 2048 + y % 8 * 256 + y / 8 % 8 * 32 + x

/-- The offset of its attribute byte. -/
def attributeOffset (y x : Nat) : Nat := 6144 + y / 8 * 32 + x

/-- The floating-bus value of a read no device claims (R562): the attribute in the page on display (assumption 45). -/
def State.floatingBus (s : State) : Byte :=
  match beamCell s.params.video s.accessClk with
  | some (y, x) => Memory.read s.mem (physical s.displayPage (attributeOffset y x))
  | none => s.params.unownedPortByte

/-- The colours of a cell (R561). -/
structure CellColours where
  ink : BitVec 3
  paper : BitVec 3
  bright : Bool
deriving DecidableEq, Repr

/-- The colours an attribute byte gives, swapped while its flash bit and the flash mask are both 1 (R561). -/
def cellColours (attr : Byte) (flashMask : Bool) : CellColours :=
  let ink := attr.extractLsb' 0 3
  let paper := attr.extractLsb' 3 3
  if attr.getLsbD 7 && flashMask then { ink := paper, paper := ink, bright := attr.getLsbD 6 }
  else { ink := ink, paper := paper, bright := attr.getLsbD 6 }

/-- The colour of pixel `k` of a cell, the leftmost being 0 (R561). R561 does not say which bitmap bit is which pixel, nor which
value shows ink: bit 7 is the leftmost and 1 is ink, as on the ZX Spectrum. PRESUMED, unsafe: assumption 45. -/
def pixelColour (bitmap attr : Byte) (flashMask : Bool) (k : Nat) : BitVec 3 :=
  if bitmap.getLsbD (7 - k) then (cellColours attr flashMask).ink else (cellColours attr flashMask).paper

/-- The colour of the pixel at row `y` and pixel column `x` of the paper, from the page on display (R561). -/
def State.screenPixel (s : State) (y x : Nat) : BitVec 3 :=
  pixelColour (Memory.read s.mem (physical s.displayPage (bitmapOffset y (x / 8))))
    (Memory.read s.mem (physical s.displayPage (attributeOffset y (x / 8)))) s.ula.flash (x % 8)

end Sys2Proof.Machine
end

