-- ==== Sys2Proof/Machine/Ops.lean ====
section
/-! DEFINITION. The shared operations over memory and control: the slot tables and the trap (spec/20_memory.md R88 to R94),
memory writes and the stack (R87, R95, R96), taking an interrupt and returning from one (spec/60_exceptions.md R532 to R540;
spec/48_jump_call_return.md R451). -/

namespace Sys2Proof.Machine

/-! ## Mapping -/

/-- `selectRamBank(n)` for a page the machine has (R92). R92 gives a page number from `RAM_BANKS` upward no meaning: slot 3
keeps its page. DESIGN CHOICE, unsafe: assumption 8. -/
def State.selectRamBank (s : State) (n : BitVec 3) : State :=
  { s with ram3 := if n.toNat < s.params.ramBanks then n else s.ram3 }

/-- `setRomBank(kind)` (R93): the read and execute entries of slot 0 follow. -/
def State.setRomBank (s : State) (k : RomKind) : State := { s with rom := k }

/-- The ROM the bank latch names (R91, R94); a 48K machine has only ROM1. -/
def State.latchRom (s : State) : RomKind :=
  match s.params.variant with
  | .m48 => .rom1
  | .m128 => if s.latch.getLsbD 4 then .rom1 else .rom0

/-- `DISK_ROM` is selected in slot 0. -/
def State.diskActive (s : State) : Bool := s.rom == s.params.diskRom

/-- An opcode fetch from `a` fires the trap: case 1 of R88. -/
def State.trapEnters (s : State) (a : Word) : Bool :=
  s.overlayActive && slotOf a == 0 && s.params.trapLoci.contains a

/-- An opcode fetch from `a` leaves the disk ROM: case 2 of R88 (R91), from `TRAP_EXIT` upward. -/
def State.trapExits (s : State) (a : Word) : Bool := s.diskActive && decide (s.params.trapExit ≤ a)

/-- The state once `FetchOp(a)` has checked the trap (R88, R90, R91). -/
def State.fetchMap (s : State) (a : Word) : State :=
  if s.trapEnters a then s.setRomBank s.params.diskRom
  else if s.trapExits a then s.setRomBank s.latchRom
  else s

/-- `FetchOp(a)` (R88): the byte, in the mapping the trap check leaves; after a trap entry it is `MemRead(a, 1)`. -/
def State.fetchOp (s : State) (a : Word) : Byte × State :=
  if s.trapEnters a then ((s.fetchMap a).readByte a, s.fetchMap a) else ((s.fetchMap a).execByte a, s.fetchMap a)

/-- `FetchArg(a)` (R89). -/
def State.fetchArg (s : State) (a : Word) : Byte := s.readByte a

/-! ## Memory writes and the stack -/

/-- The raster is brought up to a clock value (R87, R561). -/
def State.syncVideo (s : State) (clk : Int) : State := { s with ula := s.ula.syncTo s.params.video clk }

/-- `MemWrite(a, 1, v)` (R87): a write to display memory synchronises the raster first. -/
def State.writeByte (s : State) (a : Word) (v : Byte) : State :=
  let s' := if s.isDisplayPage (s.writePage (slotOf a)) then s.syncVideo s.accessClk else s
  { s' with mem := Memory.write s.mem (s.writeLoc a) v }

/-- `MemWrite(a, 2, v)`, low byte first (R95). -/
def State.writeWord (s : State) (a : Word) (v : Word) : State := (s.writeByte a v.lo).writeByte (a + 1) v.hi

/-- `Push16(v)` (R96): the high byte first, at the higher address. -/
def State.push16 (s : State) (v : Word) : State :=
  let s1 := (s.setSp (s.cpu.sp - 1)).writeByte (s.cpu.sp - 1) v.hi
  (s1.setSp (s.cpu.sp - 2)).writeByte (s.cpu.sp - 2) v.lo

/-- The word `Pop16()` returns (R96). -/
def State.popped (s : State) : Word := s.readWord s.cpu.sp

/-- The state after `Pop16()` (R96). -/
def State.popSp (s : State) : State := s.setSp (s.cpu.sp + 2)

/-! ## Control transfer -/

/-- `PC <- w; MEMPTR <- w`. -/
def State.jump (s : State) (w : Word) : State := (s.setPc w).setMemptr w

/-- `Push16(PC); PC <- w; MEMPTR <- w`. -/
def State.call (s : State) (w : Word) : State := (s.push16 s.cpu.pc).jump w

/-- `PC <- Pop16(); MEMPTR <- PC`. -/
def State.popPc (s : State) : State := s.popSp.jump s.popped

/-- `mod16(PC + s8(e))` (R143). -/
def State.relative (s : State) (e : Byte) : Word := s.cpu.pc + e.sext

/-! ## Taking an interrupt and returning from one -/

/-- The exit from HALT at an acceptance (R532). -/
def State.exitHalt (s : State) : State := if s.cpu.halted then (s.setHalted false).setPc (s.cpu.pc + 1) else s

/-- Where an interrupt entry jumps to: a fixed address, or the word a table address holds once PC is pushed. -/
def State.vectorTarget (s : State) (fixed : Option Word) (table : Word) : Word :=
  match fixed with
  | some w => w
  | none => s.readWord table

/-- Taking an interrupt (R532, R537, R540): the HALT exit; IFF1 cleared, and IFF2 too unless it is an NMI; one refresh
increment; PC pushed; the jump, which reads a vector table after the push (R536); the response cost; `int_block` cleared. -/
def State.takeInterrupt (s : State) (isNmi : Bool) (fixed : Option Word) (table : Word) (cost : Nat) : State :=
  let s1 := ((s.exitHalt.setIff1 false).setIff2 (isNmi && s.cpu.iff2)).refresh 1
  let s2 := s1.push16 s1.cpu.pc
  ((s2.jump (s2.vectorTarget fixed table)).tick cost).setIntBlock false

/-- The acceptance of the maskable interrupt (R533 to R538). In mode 0 only an RST byte on the bus has a meaning. -/
def State.acceptInt (s : State) : Host.Outcome State Fault Refusal :=
  match s.cpu.im with
  | .im0 =>
    if s.params.intBusByte &&& 0xC7 = 0xC7 then
      .next (s.takeInterrupt false (some ((s.params.intBusByte &&& 0x38).setWidth 16)) 0 13)
    else .refused .im0BusByteNotRst
  | .im1 => .next (s.takeInterrupt false (some 0x0038) 0 13)
  | .im2 => .next (s.takeInterrupt false none (Word.ofBytes s.cpu.i s.params.intBusByte) 19)

/-- The non-maskable interrupt (R540). -/
def State.nmi (s : State) : State := s.takeInterrupt true (some 0x0066) 0 11

/-- RETI and RETN (R451, R452): the return, and IFF1 from IFF2. -/
def State.returnFromInterrupt (s : State) : State := s.popPc.setIff1 s.cpu.iff2

/-- A repeating block instruction runs again (R270): PC back at the instruction. -/
def State.repeatPc (s : State) : State := s.setPc (s.cpu.pc - 2)

end Sys2Proof.Machine
end

