-- ==== Sys2Proof/Machine/Timing.lean ====
section
/-! DEFINITION. The cost table (spec/70_reset_and_hazards.md R620, R621, the parameter `TSTATES` of spec/00_scope.md R8): the
T-states of every row of spec/opcode_table.json, the rows a machine's parameters put in their place, and the charge an
instruction makes with `tick` (spec/10_state.md R48). -/

namespace Sys2Proof

/-- The `tstates` of an instruction's row: its cost, or, where the row also has `tstates_taken`, its cost when it neither
branches nor repeats. An escape's row has what the prefix adds to the base row (R151). -/
def Instr.tstates (i : Instr) : Nat :=
  match i with
  | .nop | .exAfAf | .incR _ | .decR _ | .rlca | .rrca | .rla | .rra | .daa | .cpl | .scf | .ccf | .ldRR _ _
  | .halt | .addAR _ | .adcAR _ | .subR _ | .sbcAR _ | .andR _ | .xorR _ | .orR _ | .cpR _ | .exx | .jpMHl
  | .exDeHl | .di | .ei | .ddRedundant _ | .ddEscape _ | .fdRedundant _ | .fdEscape _ => 4
  | .retCc _ => 5
  | .incRr _ | .decRr _ | .ldSpHl => 6
  | .jrCc _ _ | .ldMBcA | .ldMDeA | .ldAMBc | .ldAMDe | .ldRN _ _ | .ldRMHl _ | .ldMHlR _ | .addAMHl
  | .addAN _ | .adcAMHl | .adcAN _ | .subMHl | .subN _ | .sbcAMHl | .sbcAN _ | .andMHl | .andN _ | .xorMHl
  | .xorN _ | .orMHl | .orN _ | .cpMHl | .cpN _ => 7
  | .djnz _ | .rlcR _ | .rrcR _ | .rlR _ | .rrR _ | .slaR _ | .sraR _ | .sllR _ | .srlR _ | .bitBR _ _
  | .resBR _ _ | .setBR _ _ | .neg _ | .im0 _ | .im1 _ | .im2 _ | .nopStar _ | .incIxh _ | .decIxh _
  | .ldRIxh _ _ | .jpMIx | .incIyh _ | .decIyh _ | .ldRIyh _ _ | .jpMIy | .addAXh _ _ | .adcAXh _ _
  | .subXh _ _ | .sbcAXh _ _ | .andXh _ _ | .xorXh _ _ | .orXh _ _ | .cpXh _ _ => 8
  | .ldIA | .ldRA | .ldAI | .ldAR => 9
  | .ldRrNn _ _ | .ldMHlN _ | .popQq _ | .ret | .jpCcNn _ _ | .jpNn _ | .callCcNn _ _ | .incIx | .decIx
  | .ldSpIx | .incIy | .decIy | .ldSpIy => 10
  | .addHlRr _ | .incMHl | .decMHl | .outMNA _ | .inAMN _ | .pushQq _ | .rstP _ | .ldIxhN _ _ | .ldIyhN _ _ => 11
  | .jr _ | .bitBMHl _ | .inRMC _ | .inFMC | .outMCR _ | .outMC0 => 12
  | .ldMNnA _ | .ldAMNn _ => 13
  | .reti | .retn _ | .ldIxNn _ | .popIx | .ldIyNn _ | .popIy => 14
  | .rlcMHl | .rrcMHl | .rlMHl | .rrMHl | .slaMHl | .sraMHl | .sllMHl | .srlMHl | .resBMHl _ | .setBMHl _
  | .sbcHlRr _ | .adcHlRr _ | .addIxRr _ | .pushIx | .addIyRr _ | .pushIy => 15
  | .ldMNnHl _ | .ldHlMNn _ | .ldi | .cpi | .ini | .outi | .ldd | .cpd | .ind | .outd | .ldir | .cpir | .inir
  | .otir | .lddr | .cpdr | .indr | .otdr => 16
  | .callNn _ => 17
  | .rrd | .rld => 18
  | .exMSpHl | .ldMIxdN _ _ | .ldRMIxd _ _ | .ldMIxdR _ _ | .addAMIxd _ | .adcAMIxd _ | .subMIxd _
  | .sbcAMIxd _ | .andMIxd _ | .xorMIxd _ | .orMIxd _ | .cpMIxd _ | .ldMIydN _ _ | .ldRMIyd _ _
  | .ldMIydR _ _ | .addAMIyd _ | .adcAMIyd _ | .subMIyd _ | .sbcAMIyd _ | .andMIyd _ | .xorMIyd _ | .orMIyd _
  | .cpMIyd _ => 19
  | .ldMNnRr _ _ | .ldRrMNn _ _ | .ldMNnIx _ | .ldIxMNn _ | .bitBMIxd _ _ _ | .ldMNnIy _ | .ldIyMNn _
  | .bitBMIyd _ _ _ => 20
  | .incMIxd _ | .decMIxd _ | .exMSpIx | .rlcMIxd _ | .rrcMIxd _ | .rlMIxd _ | .rrMIxd _ | .slaMIxd _
  | .sraMIxd _ | .sllMIxd _ | .srlMIxd _ | .rotMIxdR _ _ _ | .resBMIxd _ _ | .setBMIxd _ _ | .resBMIxdR _ _ _
  | .setBMIxdR _ _ _ | .incMIyd _ | .decMIyd _ | .exMSpIy | .rlcMIyd _ | .rrcMIyd _ | .rlMIyd _ | .rrMIyd _
  | .slaMIyd _ | .sraMIyd _ | .sllMIyd _ | .srlMIyd _ | .rotMIydR _ _ _ | .resBMIyd _ _ | .setBMIyd _ _
  | .resBMIydR _ _ _ | .setBMIydR _ _ _ => 23

/-- The `tstates_taken` of an instruction's row: its cost when it branches or repeats. A row without one costs its
`tstates`. -/
def Instr.tstatesTaken (i : Instr) : Nat :=
  match i with
  | .retCc _ => 11
  | .jrCc _ _ => 12
  | .djnz _ => 13
  | .callCcNn _ _ => 17
  | .ldir | .cpir | .inir | .otir | .lddr | .cpdr | .indr | .otdr => 21
  | .nop | .exAfAf | .jr _ | .ldRrNn _ _ | .addHlRr _ | .ldMBcA | .ldMDeA | .ldMNnHl _ | .ldMNnA _ | .ldAMBc
  | .ldAMDe | .ldHlMNn _ | .ldAMNn _ | .incRr _ | .decRr _ | .incR _ | .incMHl | .decR _ | .decMHl
  | .ldRN _ _ | .ldMHlN _ | .rlca | .rrca | .rla | .rra | .daa | .cpl | .scf | .ccf | .ldRR _ _ | .ldRMHl _
  | .ldMHlR _ | .halt | .addAR _ | .addAMHl | .addAN _ | .adcAR _ | .adcAMHl | .adcAN _ | .subR _ | .subMHl
  | .subN _ | .sbcAR _ | .sbcAMHl | .sbcAN _ | .andR _ | .andMHl | .andN _ | .xorR _ | .xorMHl | .xorN _
  | .orR _ | .orMHl | .orN _ | .cpR _ | .cpMHl | .cpN _ | .popQq _ | .ret | .exx | .jpMHl | .ldSpHl
  | .jpCcNn _ _ | .jpNn _ | .outMNA _ | .inAMN _ | .exMSpHl | .exDeHl | .di | .ei | .pushQq _ | .callNn _
  | .rstP _ | .rlcR _ | .rlcMHl | .rrcR _ | .rrcMHl | .rlR _ | .rlMHl | .rrR _ | .rrMHl | .slaR _ | .slaMHl
  | .sraR _ | .sraMHl | .sllR _ | .sllMHl | .srlR _ | .srlMHl | .bitBR _ _ | .bitBMHl _ | .resBR _ _
  | .resBMHl _ | .setBR _ _ | .setBMHl _ | .inRMC _ | .inFMC | .outMCR _ | .outMC0 | .sbcHlRr _ | .adcHlRr _
  | .ldMNnRr _ _ | .ldRrMNn _ _ | .neg _ | .reti | .retn _ | .im0 _ | .im1 _ | .im2 _ | .ldIA | .ldRA | .ldAI
  | .ldAR | .rrd | .rld | .ldi | .cpi | .ini | .outi | .ldd | .cpd | .ind | .outd | .nopStar _ | .ldIxNn _
  | .ldMNnIx _ | .ldIxMNn _ | .addIxRr _ | .incIx | .decIx | .incIxh _ | .decIxh _ | .ldIxhN _ _ | .incMIxd _
  | .decMIxd _ | .ldMIxdN _ _ | .ldRIxh _ _ | .ldRMIxd _ _ | .ldMIxdR _ _ | .popIx | .exMSpIx | .pushIx
  | .jpMIx | .ldSpIx | .addAMIxd _ | .adcAMIxd _ | .subMIxd _ | .sbcAMIxd _ | .andMIxd _ | .xorMIxd _
  | .orMIxd _ | .cpMIxd _ | .ddRedundant _ | .ddEscape _ | .rlcMIxd _ | .rrcMIxd _ | .rlMIxd _ | .rrMIxd _
  | .slaMIxd _ | .sraMIxd _ | .sllMIxd _ | .srlMIxd _ | .rotMIxdR _ _ _ | .bitBMIxd _ _ _ | .resBMIxd _ _
  | .setBMIxd _ _ | .resBMIxdR _ _ _ | .setBMIxdR _ _ _ | .ldIyNn _ | .ldMNnIy _ | .ldIyMNn _ | .addIyRr _
  | .incIy | .decIy | .incIyh _ | .decIyh _ | .ldIyhN _ _ | .incMIyd _ | .decMIyd _ | .ldMIydN _ _
  | .ldRIyh _ _ | .ldRMIyd _ _ | .ldMIydR _ _ | .popIy | .exMSpIy | .pushIy | .jpMIy | .ldSpIy | .addAMIyd _
  | .adcAMIyd _ | .subMIyd _ | .sbcAMIyd _ | .andMIyd _ | .xorMIyd _ | .orMIyd _ | .cpMIyd _ | .fdRedundant _
  | .fdEscape _ | .rlcMIyd _ | .rrcMIyd _ | .rlMIyd _ | .rrMIyd _ | .slaMIyd _ | .sraMIyd _ | .sllMIyd _
  | .srlMIyd _ | .rotMIydR _ _ _ | .bitBMIyd _ _ _ | .resBMIyd _ _ | .setBMIyd _ _ | .resBMIydR _ _ _
  | .setBMIydR _ _ _ | .addAXh _ _ | .adcAXh _ _ | .subXh _ _ | .sbcAXh _ _ | .andXh _ _ | .xorXh _ _
  | .orXh _ _ | .cpXh _ _ => i.tstates

/-- The number of an instruction's row in spec/opcode_table.json, counted from 0: the constructors stand in its order. -/
def Instr.row (i : Instr) : Nat := i.ctorIdx

/-- The row of `TSTATES` that replaces the table's for an instruction, if the machine has one (R8, R620). -/
def Params.costRow (p : Params) (i : Instr) : Option CostRow := p.tstates.find? fun r => r.row == i.row

/-- The cost of an instruction that neither branches nor repeats. -/
def Params.cost (p : Params) (i : Instr) : Nat :=
  match p.costRow i with
  | some r => r.tstates
  | none => i.tstates

/-- The cost of an instruction that branches or repeats. -/
def Params.costTaken (p : Params) (i : Instr) : Nat :=
  match p.costRow i with
  | some r => r.taken
  | none => i.tstatesTaken

end Sys2Proof

namespace Sys2Proof.Machine

/-- What the machine charges for an instruction that neither branches nor repeats. -/
def State.tstates (s : State) (i : Instr) : Nat := s.params.cost i

/-- What the machine charges for an instruction that branches or repeats. -/
def State.tstatesTaken (s : State) (i : Instr) : Nat := s.params.costTaken i

/-- The end of an instruction that neither branches nor repeats: `tick` of its cost. -/
def State.charge (s : State) (i : Instr) : State := s.tick (s.tstates i)

/-- The end of an instruction that branches or repeats. -/
def State.chargeTaken (s : State) (i : Instr) : State := s.tick (s.tstatesTaken i)

end Sys2Proof.Machine
end

