-- ==== Sys2Proof/Machine/Bit.lean ====
section
/-! DEFINITION. The bit test, set and reset group (spec/47_bit.md R410 to R418). A meaning
starts from the state whose PC is past the instruction and ends with its cost in T-states (spec/00_scope.md R13), taken from
its row of the cost table. -/

namespace Sys2Proof.Machine

/-- `BIT b,r` (R410). -/
def execBitBR (b : BitVec 3) (r : Reg8) (s : State) : Host.Outcome State Fault Refusal :=
  .next
    ((s.setF (bitF b (s.reg8 r) s.cpu.f ((s.reg8 r).getLsbD 5) ((s.reg8 r).getLsbD 3))).charge (.bitBR b r))

/-- `BIT b,(HL)` (R411). -/
def execBitBMHl (b : BitVec 3) (s : State) : Host.Outcome State Fault Refusal :=
  .next
    ((s.setF (bitF b (s.readByte s.hl) s.cpu.f (s.cpu.memptr.getLsbD 13) (s.cpu.memptr.getLsbD 11))).charge (.bitBMHl b))

/-- `BIT b,(XY+d)` (R413): Y and X come from the effective address. -/
def State.bitIndexed (s : State) (x : IdxReg) (b : BitVec 3) (d : Byte) : State :=
  (s.setF (bitF b (s.readByte (s.ea x d)) s.cpu.f ((s.ea x d).getLsbD 13) ((s.ea x d).getLsbD 11))).setMemptr (s.ea x d)

/-- `RES b,r` (R412). -/
def execResBR (b : BitVec 3) (r : Reg8) (s : State) : Host.Outcome State Fault Refusal :=
  .next ((s.setReg8 r (resBit b (s.reg8 r))).charge (.resBR b r))

/-- `RES b,(HL)` (R412). -/
def execResBMHl (b : BitVec 3) (s : State) : Host.Outcome State Fault Refusal :=
  .next ((s.writeByte s.hl (resBit b (s.readByte s.hl))).charge (.resBMHl b))

/-- `RES b,(XY+d)` (R415). -/
def State.resIndexed (s : State) (x : IdxReg) (b : BitVec 3) (d : Byte) : State :=
  (s.writeByte (s.ea x d) (resBit b (s.readByte (s.ea x d)))).setMemptr (s.ea x d)

/-- `SET b,r` (R414). -/
def execSetBR (b : BitVec 3) (r : Reg8) (s : State) : Host.Outcome State Fault Refusal :=
  .next ((s.setReg8 r (setBit b (s.reg8 r))).charge (.setBR b r))

/-- `SET b,(HL)` (R414). -/
def execSetBMHl (b : BitVec 3) (s : State) : Host.Outcome State Fault Refusal :=
  .next ((s.writeByte s.hl (setBit b (s.readByte s.hl))).charge (.setBMHl b))

/-- `SET b,(XY+d)` (R417). -/
def State.setIndexed (s : State) (x : IdxReg) (b : BitVec 3) (d : Byte) : State :=
  (s.writeByte (s.ea x d) (setBit b (s.readByte (s.ea x d)))).setMemptr (s.ea x d)

/-- `BIT b,(IX+d)` (R413), for every z. -/
def execBitBMIxd (b : BitVec 3) (d : Byte) (z : BitVec 3) (s : State) : Host.Outcome State Fault Refusal :=
  .next ((s.bitIndexed .ix b d).charge (.bitBMIxd b d z))

/-- `RES b,(IX+d)` (R415). -/
def execResBMIxd (b : BitVec 3) (d : Byte) (s : State) : Host.Outcome State Fault Refusal :=
  .next ((s.resIndexed .ix b d).charge (.resBMIxd b d))

/-- `RES b,(IX+d),r` (R418). -/
def execResBMIxdR (b : BitVec 3) (d : Byte) (r : Reg8) (s : State) : Host.Outcome State Fault Refusal :=
  .next
    (((s.resIndexed .ix b d).setReg8 r (resBit b (s.readByte (s.ea .ix d)))).charge (.resBMIxdR b d r))

/-- `SET b,(IX+d)` (R417). -/
def execSetBMIxd (b : BitVec 3) (d : Byte) (s : State) : Host.Outcome State Fault Refusal :=
  .next ((s.setIndexed .ix b d).charge (.setBMIxd b d))

/-- `SET b,(IX+d),r` (R418). -/
def execSetBMIxdR (b : BitVec 3) (d : Byte) (r : Reg8) (s : State) : Host.Outcome State Fault Refusal :=
  .next
    (((s.setIndexed .ix b d).setReg8 r (setBit b (s.readByte (s.ea .ix d)))).charge (.setBMIxdR b d r))

/-- `BIT b,(IY+d)` (R413), for every z. -/
def execBitBMIyd (b : BitVec 3) (d : Byte) (z : BitVec 3) (s : State) : Host.Outcome State Fault Refusal :=
  .next ((s.bitIndexed .iy b d).charge (.bitBMIyd b d z))

/-- `RES b,(IY+d)` (R415). -/
def execResBMIyd (b : BitVec 3) (d : Byte) (s : State) : Host.Outcome State Fault Refusal :=
  .next ((s.resIndexed .iy b d).charge (.resBMIyd b d))

/-- `RES b,(IY+d),r` (R418). -/
def execResBMIydR (b : BitVec 3) (d : Byte) (r : Reg8) (s : State) : Host.Outcome State Fault Refusal :=
  .next
    (((s.resIndexed .iy b d).setReg8 r (resBit b (s.readByte (s.ea .iy d)))).charge (.resBMIydR b d r))

/-- `SET b,(IY+d)` (R417). -/
def execSetBMIyd (b : BitVec 3) (d : Byte) (s : State) : Host.Outcome State Fault Refusal :=
  .next ((s.setIndexed .iy b d).charge (.setBMIyd b d))

/-- `SET b,(IY+d),r` (R418). -/
def execSetBMIydR (b : BitVec 3) (d : Byte) (r : Reg8) (s : State) : Host.Outcome State Fault Refusal :=
  .next
    (((s.setIndexed .iy b d).setReg8 r (setBit b (s.readByte (s.ea .iy d)))).charge (.setBMIydR b d r))

end Sys2Proof.Machine
end

