-- ==== Sys2Proof/Machine/Alu16.lean ====
section
/-! DEFINITION. The 16-bit arithmetic group (spec/45_alu16.md R350 to R357). A meaning
starts from the state whose PC is past the instruction and ends with its cost in T-states (spec/00_scope.md R13), taken from
its row of the cost table. -/

namespace Sys2Proof.Machine

/-- A 16-bit result goes to HL, its flags to F, and the old HL plus 1 to MEMPTR (R350 to R352). -/
def State.setHlF (s : State) (x : Res16) : State := ((s.setHl x.r).setF x.f).setMemptr (s.hl + 1)

/-- `ADD XY,rr` (R353). -/
def State.addXy (s : State) (x : IdxReg) (p : IdxPair) : State :=
  let out := add16 (s.xy x) (s.idxPair x p) s.cpu.f
  ((s.setXy x out.r).setF out.f).setMemptr (s.xy x + 1)

/-- `ADD HL,rr` (R350). -/
def execAddHlRr (p : RegPair) (s : State) : Host.Outcome State Fault Refusal :=
  .next ((s.setHlF (add16 s.hl (s.pair p) s.cpu.f)).charge (.addHlRr p))

/-- `ADC HL,rr` (R351). -/
def execAdcHlRr (p : RegPair) (s : State) : Host.Outcome State Fault Refusal :=
  .next ((s.setHlF (adc16 s.hl (s.pair p) (flagC s.cpu.f))).charge (.adcHlRr p))

/-- `SBC HL,rr` (R352). -/
def execSbcHlRr (p : RegPair) (s : State) : Host.Outcome State Fault Refusal :=
  .next ((s.setHlF (sbc16 s.hl (s.pair p) (flagC s.cpu.f))).charge (.sbcHlRr p))

/-- `INC rr` (R354). -/
def execIncRr (p : RegPair) (s : State) : Host.Outcome State Fault Refusal :=
  .next ((s.setPair p (s.pair p + 1)).charge (.incRr p))

/-- `DEC rr` (R356). -/
def execDecRr (p : RegPair) (s : State) : Host.Outcome State Fault Refusal :=
  .next ((s.setPair p (s.pair p - 1)).charge (.decRr p))

/-- `ADD IX,rr` (R353). -/
def execAddIxRr (p : IdxPair) (s : State) : Host.Outcome State Fault Refusal :=
  .next ((s.addXy .ix p).charge (.addIxRr p))

/-- `INC IX` (R355). -/
def execIncIx (s : State) : Host.Outcome State Fault Refusal := .next ((s.setXy .ix (s.xy .ix + 1)).charge .incIx)

/-- `DEC IX` (R357). -/
def execDecIx (s : State) : Host.Outcome State Fault Refusal := .next ((s.setXy .ix (s.xy .ix - 1)).charge .decIx)

/-- `ADD IY,rr` (R353). -/
def execAddIyRr (p : IdxPair) (s : State) : Host.Outcome State Fault Refusal :=
  .next ((s.addXy .iy p).charge (.addIyRr p))

/-- `INC IY` (R355). -/
def execIncIy (s : State) : Host.Outcome State Fault Refusal := .next ((s.setXy .iy (s.xy .iy + 1)).charge .incIy)

/-- `DEC IY` (R357). -/
def execDecIy (s : State) : Host.Outcome State Fault Refusal := .next ((s.setXy .iy (s.xy .iy - 1)).charge .decIy)

end Sys2Proof.Machine
end

