-- ==== Sys2Proof/Machine/Alu8.lean ====
section
/-! DEFINITION. The 8-bit arithmetic and logic group (spec/43_alu8.md R290 to R307). A meaning
starts from the state whose PC is past the instruction and ends with its cost in T-states (spec/00_scope.md R13), taken from
its row of the cost table. -/

namespace Sys2Proof.Machine

/-- A result goes to A and its flags to F. -/
def State.setAF (s : State) (x : Res8) : State := (s.setA x.r).setF x.f

/-- `ADD A,s` with the operand `v` (R291). -/
def State.addA (s : State) (v : Byte) : State := s.setAF (add8 s.cpu.a v false)

/-- `ADC A,s` with the operand `v` (R292). -/
def State.adcA (s : State) (v : Byte) : State := s.setAF (add8 s.cpu.a v (flagC s.cpu.f))

/-- `SUB s` with the operand `v` (R293). -/
def State.subA (s : State) (v : Byte) : State := s.setAF (sub8 s.cpu.a v false)

/-- `SBC A,s` with the operand `v` (R294). -/
def State.sbcA (s : State) (v : Byte) : State := s.setAF (sub8 s.cpu.a v (flagC s.cpu.f))

/-- `AND s` with the operand `v` (R295). -/
def State.andA (s : State) (v : Byte) : State := s.setAF (and8 s.cpu.a v)

/-- `XOR s` with the operand `v` (R296). -/
def State.xorA (s : State) (v : Byte) : State := s.setAF (xor8 s.cpu.a v)

/-- `OR s` with the operand `v` (R297). -/
def State.orA (s : State) (v : Byte) : State := s.setAF (or8 s.cpu.a v)

/-- `CP s` with the operand `v` (R298). -/
def State.cpA (s : State) (v : Byte) : State := s.setF (cp8 s.cpu.a v)

/-- `ADD A,r` (R291). -/
def execAddAR (r : Reg8) (s : State) : Host.Outcome State Fault Refusal :=
  .next ((s.addA (s.reg8 r)).charge (.addAR r))

/-- `ADD A,(HL)` (R291). -/
def execAddAMHl (s : State) : Host.Outcome State Fault Refusal := .next ((s.addA (s.readByte s.hl)).charge .addAMHl)

/-- `ADD A,n` (R291). -/
def execAddAN (n : Byte) (s : State) : Host.Outcome State Fault Refusal := .next ((s.addA n).charge (.addAN n))

/-- `ADD A,(IX+d)` (R291). -/
def execAddAMIxd (d : Byte) (s : State) : Host.Outcome State Fault Refusal :=
  .next (((s.addA (s.readByte (s.ea .ix d))).setMemptr (s.ea .ix d)).charge (.addAMIxd d))

/-- `ADD A,(IY+d)` (R291). -/
def execAddAMIyd (d : Byte) (s : State) : Host.Outcome State Fault Refusal :=
  .next (((s.addA (s.readByte (s.ea .iy d))).setMemptr (s.ea .iy d)).charge (.addAMIyd d))

/-- `ADD A,XYH` and `ADD A,XYL` (R291). -/
def execAddAXh (x : IdxReg) (h : Half) (s : State) : Host.Outcome State Fault Refusal :=
  .next ((s.addA (s.half x h)).charge (.addAXh x h))

/-- `ADC A,r` (R292). -/
def execAdcAR (r : Reg8) (s : State) : Host.Outcome State Fault Refusal :=
  .next ((s.adcA (s.reg8 r)).charge (.adcAR r))

/-- `ADC A,(HL)` (R292). -/
def execAdcAMHl (s : State) : Host.Outcome State Fault Refusal := .next ((s.adcA (s.readByte s.hl)).charge .adcAMHl)

/-- `ADC A,n` (R292). -/
def execAdcAN (n : Byte) (s : State) : Host.Outcome State Fault Refusal := .next ((s.adcA n).charge (.adcAN n))

/-- `ADC A,(IX+d)` (R292). -/
def execAdcAMIxd (d : Byte) (s : State) : Host.Outcome State Fault Refusal :=
  .next (((s.adcA (s.readByte (s.ea .ix d))).setMemptr (s.ea .ix d)).charge (.adcAMIxd d))

/-- `ADC A,(IY+d)` (R292). -/
def execAdcAMIyd (d : Byte) (s : State) : Host.Outcome State Fault Refusal :=
  .next (((s.adcA (s.readByte (s.ea .iy d))).setMemptr (s.ea .iy d)).charge (.adcAMIyd d))

/-- `ADC A,XYH` and `ADC A,XYL` (R292). -/
def execAdcAXh (x : IdxReg) (h : Half) (s : State) : Host.Outcome State Fault Refusal :=
  .next ((s.adcA (s.half x h)).charge (.adcAXh x h))

/-- `SUB r` (R293). -/
def execSubR (r : Reg8) (s : State) : Host.Outcome State Fault Refusal := .next ((s.subA (s.reg8 r)).charge (.subR r))

/-- `SUB (HL)` (R293). -/
def execSubMHl (s : State) : Host.Outcome State Fault Refusal := .next ((s.subA (s.readByte s.hl)).charge .subMHl)

/-- `SUB n` (R293). -/
def execSubN (n : Byte) (s : State) : Host.Outcome State Fault Refusal := .next ((s.subA n).charge (.subN n))

/-- `SUB (IX+d)` (R293). -/
def execSubMIxd (d : Byte) (s : State) : Host.Outcome State Fault Refusal :=
  .next (((s.subA (s.readByte (s.ea .ix d))).setMemptr (s.ea .ix d)).charge (.subMIxd d))

/-- `SUB (IY+d)` (R293). -/
def execSubMIyd (d : Byte) (s : State) : Host.Outcome State Fault Refusal :=
  .next (((s.subA (s.readByte (s.ea .iy d))).setMemptr (s.ea .iy d)).charge (.subMIyd d))

/-- `SUB XYH` and `SUB XYL` (R293). -/
def execSubXh (x : IdxReg) (h : Half) (s : State) : Host.Outcome State Fault Refusal :=
  .next ((s.subA (s.half x h)).charge (.subXh x h))

/-- `SBC A,r` (R294). -/
def execSbcAR (r : Reg8) (s : State) : Host.Outcome State Fault Refusal :=
  .next ((s.sbcA (s.reg8 r)).charge (.sbcAR r))

/-- `SBC A,(HL)` (R294). -/
def execSbcAMHl (s : State) : Host.Outcome State Fault Refusal := .next ((s.sbcA (s.readByte s.hl)).charge .sbcAMHl)

/-- `SBC A,n` (R294). -/
def execSbcAN (n : Byte) (s : State) : Host.Outcome State Fault Refusal := .next ((s.sbcA n).charge (.sbcAN n))

/-- `SBC A,(IX+d)` (R294). -/
def execSbcAMIxd (d : Byte) (s : State) : Host.Outcome State Fault Refusal :=
  .next (((s.sbcA (s.readByte (s.ea .ix d))).setMemptr (s.ea .ix d)).charge (.sbcAMIxd d))

/-- `SBC A,(IY+d)` (R294). -/
def execSbcAMIyd (d : Byte) (s : State) : Host.Outcome State Fault Refusal :=
  .next (((s.sbcA (s.readByte (s.ea .iy d))).setMemptr (s.ea .iy d)).charge (.sbcAMIyd d))

/-- `SBC A,XYH` and `SBC A,XYL` (R294). -/
def execSbcAXh (x : IdxReg) (h : Half) (s : State) : Host.Outcome State Fault Refusal :=
  .next ((s.sbcA (s.half x h)).charge (.sbcAXh x h))

/-- `AND r` (R295). -/
def execAndR (r : Reg8) (s : State) : Host.Outcome State Fault Refusal := .next ((s.andA (s.reg8 r)).charge (.andR r))

/-- `AND (HL)` (R295). -/
def execAndMHl (s : State) : Host.Outcome State Fault Refusal := .next ((s.andA (s.readByte s.hl)).charge .andMHl)

/-- `AND n` (R295). -/
def execAndN (n : Byte) (s : State) : Host.Outcome State Fault Refusal := .next ((s.andA n).charge (.andN n))

/-- `AND (IX+d)` (R295). -/
def execAndMIxd (d : Byte) (s : State) : Host.Outcome State Fault Refusal :=
  .next (((s.andA (s.readByte (s.ea .ix d))).setMemptr (s.ea .ix d)).charge (.andMIxd d))

/-- `AND (IY+d)` (R295). -/
def execAndMIyd (d : Byte) (s : State) : Host.Outcome State Fault Refusal :=
  .next (((s.andA (s.readByte (s.ea .iy d))).setMemptr (s.ea .iy d)).charge (.andMIyd d))

/-- `AND XYH` and `AND XYL` (R295). -/
def execAndXh (x : IdxReg) (h : Half) (s : State) : Host.Outcome State Fault Refusal :=
  .next ((s.andA (s.half x h)).charge (.andXh x h))

/-- `XOR r` (R296). -/
def execXorR (r : Reg8) (s : State) : Host.Outcome State Fault Refusal := .next ((s.xorA (s.reg8 r)).charge (.xorR r))

/-- `XOR (HL)` (R296). -/
def execXorMHl (s : State) : Host.Outcome State Fault Refusal := .next ((s.xorA (s.readByte s.hl)).charge .xorMHl)

/-- `XOR n` (R296). -/
def execXorN (n : Byte) (s : State) : Host.Outcome State Fault Refusal := .next ((s.xorA n).charge (.xorN n))

/-- `XOR (IX+d)` (R296). -/
def execXorMIxd (d : Byte) (s : State) : Host.Outcome State Fault Refusal :=
  .next (((s.xorA (s.readByte (s.ea .ix d))).setMemptr (s.ea .ix d)).charge (.xorMIxd d))

/-- `XOR (IY+d)` (R296). -/
def execXorMIyd (d : Byte) (s : State) : Host.Outcome State Fault Refusal :=
  .next (((s.xorA (s.readByte (s.ea .iy d))).setMemptr (s.ea .iy d)).charge (.xorMIyd d))

/-- `XOR XYH` and `XOR XYL` (R296). -/
def execXorXh (x : IdxReg) (h : Half) (s : State) : Host.Outcome State Fault Refusal :=
  .next ((s.xorA (s.half x h)).charge (.xorXh x h))

/-- `OR r` (R297). -/
def execOrR (r : Reg8) (s : State) : Host.Outcome State Fault Refusal := .next ((s.orA (s.reg8 r)).charge (.orR r))

/-- `OR (HL)` (R297). -/
def execOrMHl (s : State) : Host.Outcome State Fault Refusal := .next ((s.orA (s.readByte s.hl)).charge .orMHl)

/-- `OR n` (R297). -/
def execOrN (n : Byte) (s : State) : Host.Outcome State Fault Refusal := .next ((s.orA n).charge (.orN n))

/-- `OR (IX+d)` (R297). -/
def execOrMIxd (d : Byte) (s : State) : Host.Outcome State Fault Refusal :=
  .next (((s.orA (s.readByte (s.ea .ix d))).setMemptr (s.ea .ix d)).charge (.orMIxd d))

/-- `OR (IY+d)` (R297). -/
def execOrMIyd (d : Byte) (s : State) : Host.Outcome State Fault Refusal :=
  .next (((s.orA (s.readByte (s.ea .iy d))).setMemptr (s.ea .iy d)).charge (.orMIyd d))

/-- `OR XYH` and `OR XYL` (R297). -/
def execOrXh (x : IdxReg) (h : Half) (s : State) : Host.Outcome State Fault Refusal :=
  .next ((s.orA (s.half x h)).charge (.orXh x h))

/-- `CP r` (R298). -/
def execCpR (r : Reg8) (s : State) : Host.Outcome State Fault Refusal := .next ((s.cpA (s.reg8 r)).charge (.cpR r))

/-- `CP (HL)` (R298). -/
def execCpMHl (s : State) : Host.Outcome State Fault Refusal := .next ((s.cpA (s.readByte s.hl)).charge .cpMHl)

/-- `CP n` (R298). -/
def execCpN (n : Byte) (s : State) : Host.Outcome State Fault Refusal := .next ((s.cpA n).charge (.cpN n))

/-- `CP (IX+d)` (R298). -/
def execCpMIxd (d : Byte) (s : State) : Host.Outcome State Fault Refusal :=
  .next (((s.cpA (s.readByte (s.ea .ix d))).setMemptr (s.ea .ix d)).charge (.cpMIxd d))

/-- `CP (IY+d)` (R298). -/
def execCpMIyd (d : Byte) (s : State) : Host.Outcome State Fault Refusal :=
  .next (((s.cpA (s.readByte (s.ea .iy d))).setMemptr (s.ea .iy d)).charge (.cpMIyd d))

/-- `CP XYH` and `CP XYL` (R298). -/
def execCpXh (x : IdxReg) (h : Half) (s : State) : Host.Outcome State Fault Refusal :=
  .next ((s.cpA (s.half x h)).charge (.cpXh x h))

/-- `INC r` (R300). -/
def execIncR (r : Reg8) (s : State) : Host.Outcome State Fault Refusal :=
  .next (((s.setReg8 r (inc8 (s.reg8 r) s.cpu.f).r).setF (inc8 (s.reg8 r) s.cpu.f).f).charge (.incR r))

/-- `INC` of the byte at `a` (R301, R302). -/
def State.incMem (s : State) (a : Word) : State :=
  (s.writeByte a (inc8 (s.readByte a) s.cpu.f).r).setF (inc8 (s.readByte a) s.cpu.f).f

/-- `INC (HL)` (R301). -/
def execIncMHl (s : State) : Host.Outcome State Fault Refusal := .next ((s.incMem s.hl).charge .incMHl)

/-- `INC` of an index half (R303). -/
def State.incHalf (s : State) (x : IdxReg) (h : Half) : State :=
  (s.setHalf x h (inc8 (s.half x h) s.cpu.f).r).setF (inc8 (s.half x h) s.cpu.f).f

/-- `INC (IX+d)` (R302). -/
def execIncMIxd (d : Byte) (s : State) : Host.Outcome State Fault Refusal :=
  .next (((s.incMem (s.ea .ix d)).setMemptr (s.ea .ix d)).charge (.incMIxd d))

/-- `INC IXh` (R303). -/
def execIncIxh (h : Half) (s : State) : Host.Outcome State Fault Refusal :=
  .next ((s.incHalf .ix h).charge (.incIxh h))

/-- `INC (IY+d)` (R302). -/
def execIncMIyd (d : Byte) (s : State) : Host.Outcome State Fault Refusal :=
  .next (((s.incMem (s.ea .iy d)).setMemptr (s.ea .iy d)).charge (.incMIyd d))

/-- `INC IYh` (R303). -/
def execIncIyh (h : Half) (s : State) : Host.Outcome State Fault Refusal :=
  .next ((s.incHalf .iy h).charge (.incIyh h))

/-- `DEC r` (R304). -/
def execDecR (r : Reg8) (s : State) : Host.Outcome State Fault Refusal :=
  .next (((s.setReg8 r (dec8 (s.reg8 r) s.cpu.f).r).setF (dec8 (s.reg8 r) s.cpu.f).f).charge (.decR r))

/-- `DEC` of the byte at `a` (R305, R306). -/
def State.decMem (s : State) (a : Word) : State :=
  (s.writeByte a (dec8 (s.readByte a) s.cpu.f).r).setF (dec8 (s.readByte a) s.cpu.f).f

/-- `DEC (HL)` (R305). -/
def execDecMHl (s : State) : Host.Outcome State Fault Refusal := .next ((s.decMem s.hl).charge .decMHl)

/-- `DEC` of an index half (R307). -/
def State.decHalf (s : State) (x : IdxReg) (h : Half) : State :=
  (s.setHalf x h (dec8 (s.half x h) s.cpu.f).r).setF (dec8 (s.half x h) s.cpu.f).f

/-- `DEC (IX+d)` (R306). -/
def execDecMIxd (d : Byte) (s : State) : Host.Outcome State Fault Refusal :=
  .next (((s.decMem (s.ea .ix d)).setMemptr (s.ea .ix d)).charge (.decMIxd d))

/-- `DEC IXh` (R307). -/
def execDecIxh (h : Half) (s : State) : Host.Outcome State Fault Refusal :=
  .next ((s.decHalf .ix h).charge (.decIxh h))

/-- `DEC (IY+d)` (R306). -/
def execDecMIyd (d : Byte) (s : State) : Host.Outcome State Fault Refusal :=
  .next (((s.decMem (s.ea .iy d)).setMemptr (s.ea .iy d)).charge (.decMIyd d))

/-- `DEC IYh` (R307). -/
def execDecIyh (h : Half) (s : State) : Host.Outcome State Fault Refusal :=
  .next ((s.decHalf .iy h).charge (.decIyh h))

end Sys2Proof.Machine
end

