-- ==== Sys2Proof/Machine/Control.lean ====
section
/-! DEFINITION. The general-purpose arithmetic and CPU control group (spec/44_general_control.md R320 to R334). A meaning
starts from the state whose PC is past the instruction and ends with its cost in T-states (spec/00_scope.md R13), taken from
its row of the cost table. -/

namespace Sys2Proof.Machine

/-- `DAA` (R320). -/
def execDaa (s : State) : Host.Outcome State Fault Refusal := .next ((s.setAF (daa8 s.cpu.a s.cpu.f)).charge .daa)

/-- `CPL` (R321). -/
def execCpl (s : State) : Host.Outcome State Fault Refusal := .next ((s.setAF (cpl8 s.cpu.a s.cpu.f)).charge .cpl)

/-- `NEG` (R322), for every y. -/
def execNeg (y : BitVec 3) (s : State) : Host.Outcome State Fault Refusal :=
  .next ((s.setAF (neg8 s.cpu.a)).charge (.neg y))

/-- `CCF` (R323). -/
def execCcf (s : State) : Host.Outcome State Fault Refusal := .next ((s.setF (ccf8 s.cpu.a s.cpu.f)).charge .ccf)

/-- `SCF` (R324). -/
def execScf (s : State) : Host.Outcome State Fault Refusal := .next ((s.setF (scf8 s.cpu.a s.cpu.f)).charge .scf)

/-- `NOP` (R325). -/
def execNop (s : State) : Host.Outcome State Fault Refusal := .next (s.charge .nop)

/-- `HALT` (R326): PC goes back to the 0x76 byte. -/
def execHalt (s : State) : Host.Outcome State Fault Refusal :=
  .next (((s.setPc (s.cpu.pc - 1)).setHalted true).charge .halt)

/-- `DI` (R327). -/
def execDi (s : State) : Host.Outcome State Fault Refusal := .next (((s.setIff1 false).setIff2 false).charge .di)

/-- `EI` (R328). -/
def execEi (s : State) : Host.Outcome State Fault Refusal :=
  .next ((((s.setIff1 true).setIff2 true).setIntBlock true).charge .ei)

/-- `IM 0` (R330), for every y of its row. -/
def execIm0 (y : BitVec 3) (s : State) : Host.Outcome State Fault Refusal := .next ((s.setIm .im0).charge (.im0 y))

/-- `IM 1` (R331), for every y of its row. -/
def execIm1 (y : BitVec 3) (s : State) : Host.Outcome State Fault Refusal := .next ((s.setIm .im1).charge (.im1 y))

/-- `IM 2` (R332), for every y of its row. -/
def execIm2 (y : BitVec 3) (s : State) : Host.Outcome State Fault Refusal := .next ((s.setIm .im2).charge (.im2 y))

/-- The ED no-op (R333). -/
def execNopStar (op : Byte) (s : State) : Host.Outcome State Fault Refusal := .next (s.charge (.nopStar op))

/-- A redundant DD prefix (R334): the step has already moved PC past the one byte. -/
def execDdRedundant (f : PrefixByte) (s : State) : Host.Outcome State Fault Refusal :=
  .next ((s.setIntBlock true).charge (.ddRedundant f))

/-- A redundant FD prefix (R334): the step has already moved PC past the one byte. -/
def execFdRedundant (f : PrefixByte) (s : State) : Host.Outcome State Fault Refusal :=
  .next ((s.setIntBlock true).charge (.fdRedundant f))

end Sys2Proof.Machine
end

