-- ==== Sys2Proof/Machine/ExchangeBlock.lean ====
section
/-! DEFINITION. The exchange, block transfer and block search group (spec/42_exchange_block.md R260 to R274). A meaning
starts from the state whose PC is past the instruction and ends with its cost in T-states (spec/00_scope.md R13), taken from
its row of the cost table. -/

namespace Sys2Proof.Machine

/-- `EX DE,HL` (R260). -/
def execExDeHl (s : State) : Host.Outcome State Fault Refusal := .next (((s.setDe s.hl).setHl s.de).charge .exDeHl)

/-- `EX AF,AF'` (R261). -/
def execExAfAf (s : State) : Host.Outcome State Fault Refusal := .next (s.swapAf.charge .exAfAf)

/-- `EXX` (R262). -/
def execExx (s : State) : Host.Outcome State Fault Refusal := .next (s.swapBank.charge .exx)

/-- The stores of `EX (SP),rr` (R263, R264): the high byte of `v` at SP + 1, then its low byte at SP. -/
def State.storeTop (s : State) (v : Word) : State := (s.writeByte (s.cpu.sp + 1) v.hi).writeByte s.cpu.sp v.lo

/-- `EX (SP),HL` (R263). -/
def execExMSpHl (s : State) : Host.Outcome State Fault Refusal :=
  .next ((((s.storeTop s.hl).setHl s.popped).setMemptr s.popped).charge .exMSpHl)

/-- `EX (SP),IX` (R264). -/
def execExMSpIx (s : State) : Host.Outcome State Fault Refusal :=
  .next ((((s.storeTop (s.xy .ix)).setXy .ix s.popped).setMemptr s.popped).charge .exMSpIx)

/-- `EX (SP),IY` (R264). -/
def execExMSpIy (s : State) : Host.Outcome State Fault Refusal :=
  .next ((((s.storeTop (s.xy .iy)).setXy .iy s.popped).setMemptr s.popped).charge .exMSpIy)

/-- HL one step on: up when `up`, else down. -/
def State.stepHl (s : State) (up : Bool) : State := s.setHl (if up then s.hl + 1 else s.hl - 1)

/-- DE one step on. -/
def State.stepDe (s : State) (up : Bool) : State := s.setDe (if up then s.de + 1 else s.de - 1)

/-- One iteration of a block transfer (R265, R266). -/
def State.blockMove (s : State) (up : Bool) : State :=
  let v := s.readByte s.hl
  let s1 := (((s.writeByte s.de v).stepHl up).stepDe up).setBc (s.bc - 1)
  s1.setF (ldBlockF s.cpu.a v s.cpu.f (s1.bc != 0))

/-- One iteration of a block search (R267, R268). -/
def State.blockCompare (s : State) (up : Bool) : State :=
  let v := s.readByte s.hl
  let s1 := (s.stepHl up).setBc (s.bc - 1)
  (s1.setF (cpBlockF s.cpu.a v s.cpu.f (s1.bc != 0))).setMemptr (if up then s.cpu.memptr + 1 else s.cpu.memptr - 1)

/-- The end of a step of a repeating transfer or search (R270): while `again` holds PC goes back to the instruction, MEMPTR
is the address after its first byte. `i` is the instruction, whose row gives the two costs. -/
def State.repeatBlock (s : State) (i : Instr) (again : Bool) : State :=
  if again then ((s.repeatPc).setMemptr (s.cpu.pc - 1)).chargeTaken i else s.charge i

/-- `LDI` (R265). -/
def execLdi (s : State) : Host.Outcome State Fault Refusal := .next ((s.blockMove true).charge .ldi)

/-- `LDD` (R266). -/
def execLdd (s : State) : Host.Outcome State Fault Refusal := .next ((s.blockMove false).charge .ldd)

/-- `CPI` (R267). -/
def execCpi (s : State) : Host.Outcome State Fault Refusal := .next ((s.blockCompare true).charge .cpi)

/-- `CPD` (R268). -/
def execCpd (s : State) : Host.Outcome State Fault Refusal := .next ((s.blockCompare false).charge .cpd)

/-- `LDIR` (R271): one iteration of `LDI`. -/
def execLdir (s : State) : Host.Outcome State Fault Refusal :=
  .next ((s.blockMove true).repeatBlock .ldir ((s.blockMove true).bc != 0))

/-- `LDDR` (R272): one iteration of `LDD`. -/
def execLddr (s : State) : Host.Outcome State Fault Refusal :=
  .next ((s.blockMove false).repeatBlock .lddr ((s.blockMove false).bc != 0))

/-- `CPIR` (R273): one iteration of `CPI`; a match ends it. -/
def execCpir (s : State) : Host.Outcome State Fault Refusal :=
  .next ((s.blockCompare true).repeatBlock .cpir ((s.blockCompare true).bc != 0 && !flagZ (s.blockCompare true).cpu.f))

/-- `CPDR` (R274): one iteration of `CPD`; a match ends it. -/
def execCpdr (s : State) : Host.Outcome State Fault Refusal :=
  .next ((s.blockCompare false).repeatBlock .cpdr ((s.blockCompare false).bc != 0 && !flagZ (s.blockCompare false).cpu.f))

end Sys2Proof.Machine
end

