-- ==== Sys2Proof/Machine/Ay.lean ====
section
/-! DEFINITION. The sound synthesiser (spec/60_exceptions.md R567, R568): the register interface, the generators, and the
stereo samples they and the beeper and tape levels make. The low-pass filter over the samples and the contents of the tables
are out of scope (spec/00_scope.md R6 item 4). -/

namespace Sys2Proof.Machine

/-! ## Registers (R567) -/

/-- The bits a register keeps. -/
def ayMask (r : BitVec 4) : Byte :=
  match r.toNat with
  | 1 => 0x0F
  | 3 => 0x0F
  | 5 => 0x0F
  | 6 => 0x1F
  | 8 => 0x1F
  | 9 => 0x1F
  | 10 => 0x1F
  | 13 => 0x0F
  | _ => 0xFF

/-- The value of a register. -/
def Ay.reg (y : Ay) (r : BitVec 4) : Byte := y.regs[r.toNat]

/-- The tone period of the channel whose low register is `lo`: 12 bits. -/
def Ay.tonePeriod (y : Ay) (lo : BitVec 4) : Nat := (y.reg lo).toNat + 256 * ((y.reg (lo + 1)).toNat % 16)

/-- The noise period: 5 bits. -/
def Ay.noisePeriod (y : Ay) : Nat := (y.reg 6).toNat % 32

/-- The envelope period: 16 bits. -/
def Ay.envPeriod (y : Ay) : Nat := (y.reg 11).toNat + 256 * (y.reg 12).toNat

/-- The envelope shape: 4 bits. -/
def Ay.shape (y : Ay) : BitVec 4 := (y.reg 13).extractLsb' 0 4

/-! ## Envelopes (R568) -/

/-- The first ramp: rising when the attack bit is 1. -/
def firstRamp (attack : Bool) (i : Nat) : Nat := if attack then i else 15 - i

/-- The envelope table: the level of a shape at step 0 to 31. Shape bits: C 3, At 2, Alt 1, H 0. -/
def envLevel (shape : BitVec 4) (step : Nat) : Nat :=
  let attack := shape.getLsbD 2
  let alternate := shape.getLsbD 1
  if step < 16 then firstRamp attack step
  else if !shape.getLsbD 3 then 0
  else if shape.getLsbD 0 then if attack != alternate then 15 else 0
  else if alternate then firstRamp (!attack) (step - 16)
  else firstRamp attack (step - 16)

/-- The shapes that wrap from step 31 to step 0: C = 1 and H = 0. The others freeze at step 31. -/
def envRepeats (shape : BitVec 4) : Bool := shape.getLsbD 3 && !shape.getLsbD 0

/-- The envelope step `n` advances later. -/
def envAdvance (shape : BitVec 4) (step : BitVec 5) (n : Nat) : BitVec 5 :=
  if envRepeats shape then step + BitVec.ofNat 5 n else BitVec.ofNat 5 (min 31 (step.toNat + n))

/-! ## Generators (R568) -/

/-- A counter's limit: its programmed period, a period of 0 counting as 1, times the scale. -/
def ayLimit (cfg : AudioConfig) (period : Nat) : Nat := max 1 (max 1 period * cfg.ayScale)

/-- One sample of a tone generator: its output toggles each time the accumulator wraps. -/
def Tone.advance (t : Tone) (cfg : AudioConfig) (period : Nat) : Tone :=
  let limit := ayLimit cfg period
  { count := (t.count + cfg.ayStep) % limit
    out := if (t.count + cfg.ayStep) / limit % 2 = 1 then !t.out else t.out }

/-- Whether an odd number of the bits of `v` is 1. -/
def oddParity17 (v : BitVec 17) : Bool := (List.range 17).foldl (fun p k => p ^^ v.getLsbD k) false

/-- One shift of the noise LFSR: the exclusive or of the tap bits enters at the top. -/
def lfsrShift (taps v : BitVec 17) : BitVec 17 := v >>> 1 ||| (if oddParity17 (v &&& taps) then 0x10000 else 0)

/-- One sample: three tone accumulators, the noise LFSR and the envelope index, each wrapping at its own limit. -/
def Ay.sample (y : Ay) (cfg : AudioConfig) (tables : AyTables) : Ay :=
  let noise := y.noiseCount + cfg.ayStep
  let noiseLimit := ayLimit cfg y.noisePeriod
  let env := y.envCount + cfg.ayStep
  let envLimit := ayLimit cfg y.envPeriod
  { y with
    toneA := y.toneA.advance cfg (y.tonePeriod 0)
    toneB := y.toneB.advance cfg (y.tonePeriod 2)
    toneC := y.toneC.advance cfg (y.tonePeriod 4)
    noiseCount := noise % noiseLimit
    lfsr := Nat.iterate (lfsrShift tables.lfsrTaps) (noise / noiseLimit) y.lfsr
    envCount := env % envLimit
    envStep := envAdvance y.shape y.envStep (env / envLimit) }

/-- The sample index a clock value implies; with a CPU clock of 0 Hz it stays 0 (assumption 25). -/
def sampleIndex (cfg : AudioConfig) (clk : Int) : Int := clk * (cfg.sampleRate : Int) / (cfg.cpuClock : Int)

/-- How many samples a catch-up to a clock value generates. -/
def Ay.sampleCount (y : Ay) (cfg : AudioConfig) (clk : Int) : Nat :=
  (sampleIndex cfg clk - sampleIndex cfg y.baseline).toNat

/-- The generators `n` samples on. -/
def Ay.samples (y : Ay) (cfg : AudioConfig) (tables : AyTables) (n : Nat) : Ay :=
  Nat.iterate (fun y => y.sample cfg tables) n y

/-- `update(clk)`. -/
def Ay.update (y : Ay) (cfg : AudioConfig) (tables : AyTables) (clk : Int) : Ay :=
  { y.samples cfg tables (y.sampleCount cfg clk) with baseline := clk }

/-- The frame end: the baseline is lowered with the clock (R570). -/
def Ay.frameEnd (y : Ay) (budget : Nat) : Ay := { y with baseline := y.baseline - (budget : Int) }

/-- A write to the register-select port: `v mod 16`. -/
def Ay.select (y : Ay) (v : Byte) : Ay := { y with sel := v.extractLsb' 0 4 }

/-- A write to the data port: reserved bits are masked, and writing the shape restarts the envelope at step 0. -/
def Ay.write (y : Ay) (v : Byte) : Ay :=
  let y' : Ay := { y with regs := y.regs.set y.sel.toNat (v &&& ayMask y.sel) }
  if y.sel = 13 then { y' with envStep := 0 } else y'

/-- A read of the select port: the selected register. -/
def Ay.read (y : Ay) : Byte := y.reg y.sel

/-! ## Channel levels (R568) -/

/-- The level of a channel with volume register `vol`: direct, or the envelope's when bit 4 is 1. -/
def Ay.level (y : Ay) (vol : BitVec 4) : Nat :=
  if (y.reg vol).getLsbD 4 then envLevel y.shape y.envStep.toNat else (y.reg vol).toNat % 16

/-- The mixer gate of channel `k`. R568 says only that the enable bits gate the channel: its tone and its noise are combined by
AND, a disabled source counting as 1, so a channel with both disabled has a constant level, as on the AY-3-8910. PRESUMED,
unsafe: assumption 25. -/
def Ay.gate (y : Ay) (k : Nat) (t : Tone) : Bool :=
  (t.out || (y.reg 7).getLsbD k) && (y.lfsr.getLsbD 0 || (y.reg 7).getLsbD (3 + k))

/-- A channel's contribution to a sample: nothing while gated off or at level 0, else the volume table's entry. That level 0 is
silence whatever the table's first entry is read from R568's exact silence: DEDUCED, assumption 25. -/
def Ay.contribution (y : Ay) (tables : AyTables) (k : Nat) (t : Tone) (vol : BitVec 4) : Nat :=
  if y.gate k t && y.level vol != 0 then (tables.volume.toList[y.level vol]?).getD 0 else 0

/-! ## The mix (R568) -/

/-- A stereo level: a gain or a sample. -/
structure Stereo where
  left : Nat
  right : Nat
deriving DecidableEq, Repr

/-- The pan matrix: the gains of channel `k`, A being 0. The mode's first letter stands left, its last right and the one
between in the centre; in mono all three do. DESIGN CHOICE, unsafe: assumption 44. -/
def panGain (cfg : AudioConfig) (k : Nat) : Stereo :=
  let left : Stereo := { left := cfg.near, right := cfg.far }
  let centre : Stereo := { left := cfg.centre, right := cfg.centre }
  let right : Stereo := { left := cfg.far, right := cfg.near }
  match cfg.pan with
  | .abc => if k = 0 then left else if k = 1 then centre else right
  | .acb => if k = 0 then left else if k = 1 then right else centre
  | .mono => centre

/-- Two stereo levels added. -/
def Stereo.add (a b : Stereo) : Stereo := { left := a.left + b.left, right := a.right + b.right }

/-- A channel's contribution through the pan matrix. -/
def Ay.panned (y : Ay) (cfg : AudioConfig) (tables : AyTables) (k : Nat) (t : Tone) (vol : BitVec 4) : Stereo :=
  { left := (panGain cfg k).left * y.contribution tables k t vol
    right := (panGain cfg k).right * y.contribution tables k t vol }

/-- The AY's contribution to a sample: its three channels mixed through the pan matrix. -/
def Ay.mix (y : Ay) (cfg : AudioConfig) (tables : AyTables) : Stereo :=
  ((y.panned cfg tables 0 y.toneA 8).add (y.panned cfg tables 1 y.toneB 9)).add (y.panned cfg tables 2 y.toneC 10)

/-- The level the beeper and the two tape signals add to a sample: the MIC output and the cassette input (assumption 44). -/
def State.outputLevel (s : State) : Nat :=
  (if s.ula.beeper then s.params.audio.beeperLevel else 0) + (if s.ula.mic then s.params.audio.micLevel else 0) +
    if s.tape.latch then s.params.audio.earLevel else 0

/-- One sample before the filter, with the generators standing as in `y`. -/
def State.audioSample (s : State) (y : Ay) : Stereo :=
  (y.mix s.params.audio s.params.ayTables).add { left := s.outputLevel, right := s.outputLevel }

/-- The samples a catch-up of the AY to a clock value generates, in order. -/
def State.audioSamples (s : State) (clk : Int) : List Stereo :=
  (List.range (s.ay.sampleCount s.params.audio clk)).map fun n =>
    s.audioSample (s.ay.samples s.params.audio s.params.ayTables (n + 1))

end Sys2Proof.Machine
end

