-- ==== Sys2Proof/Machine/Fdc.lean ====
section
/-! DEFINITION. The floppy controller (spec/60_exceptions.md R564 to R566): registers, the command state machine, and the
disk image. What the spec takes from the WD1793 without stating is in assumptions 30 to 32, and what the model settles
beside it in assumptions 40 to 43 and 46. -/

namespace Sys2Proof.Machine

/-! ## The selected drive (R564) -/

/-- Bits 1:0 of the system register select the drive. -/
def Fdc.driveIndex (f : Fdc) : Fin 4 := ⟨f.system.toNat % 4, Nat.mod_lt _ (by decide)⟩

/-- The selected drive. -/
def Fdc.drive (f : Fdc) : Drive := f.drives[f.driveIndex]

/-- The controller with the selected drive changed. -/
def Fdc.setDrive (f : Fdc) (d : Drive) : Fdc := { f with drives := f.drives.set f.driveIndex d }

/-- Bit 4 of the system register selects the side: 0 is side 1, 1 is side 0. -/
def Fdc.side (f : Fdc) : Nat := if f.system.getLsbD 4 then 0 else 1

/-- The selected drive has media (R566). -/
def Fdc.ready (f : Fdc) : Bool := f.drive.media.isSome

/-- A command is active. -/
def Fdc.busy (f : Fdc) : Bool :=
  match f.phase with
  | .idle => false
  | .stepping _ _ => true
  | .verifying => true
  | .waiting _ _ => true
  | .request _ => true

/-! ## Status bits (R565) -/

/-- The controller with a stored status bit set to `v`. -/
def Fdc.setStatusBit (f : Fdc) (k : Nat) (v : Bool) : Fdc :=
  { f with status := if v then f.status ||| ((1 : Byte) <<< k) else f.status &&& ~~~((1 : Byte) <<< k) }

/-- The Type I layout below bit 7: 6 write protect, 5 head loaded and 2 track 0 as the selected drive has them at the read
(PRESUMED, WD1793: assumption 43), 4 seek error and 3 CRC error held, 1 the index bit, a free value, and 0 busy held. -/
def Fdc.typeIBits (f : Fdc) : BitVec 7 :=
  BitVec.ofBool f.drive.writeProtect ++ BitVec.ofBool f.drive.headLoaded ++ f.status.extractLsb' 3 2 ++
    BitVec.ofBool (f.drive.head == 0) ++ BitVec.ofBool (Config.fdcIndex f.draws) ++ f.status.extractLsb' 0 1

/-- The status byte of a read: bit 7 is not ready, below it the layout of the last command. -/
def Fdc.statusByte (f : Fdc) : Byte :=
  let low :=
    match f.statusKind with
    | .typeI => f.typeIBits
    | .afterReset => f.status.extractLsb' 0 7
    | .typeIIorIII => f.status.extractLsb' 0 7
  BitVec.ofBool (!f.ready) ++ low

/-! ## Completion -/

/-- The active command ends: not busy, no DRQ, INTRQ raised. -/
def Fdc.finish (f : Fdc) : Fdc :=
  { f with status := f.status &&& 0xFC, phase := .idle, elapsed := 0, intrq := true }

/-- A Type I command ends with its seek-error bit. -/
def Fdc.finishTypeI (f : Fdc) (seekError : Bool) : Fdc := f.finish.setStatusBit 4 seekError

/-- A Type II or III command ends with one error bit set. -/
def Fdc.finishError (f : Fdc) (bit : Nat) : Fdc := f.finish.setStatusBit bit true

/-! ## Type I commands -/

/-- A track number moved `n` steps and clamped to 0 to 79 (R565). -/
def moveTrack (t n : Nat) (inward : Bool) : Nat := if inward then min 79 (t + n) else min 79 (t - n)

/-- The top nibble of the active command. -/
def Fdc.commandClass (f : Fdc) : Nat := f.command.toNat / 16

/-- The steps of the active command move the track register too: Restore and Seek always, the Step commands when their
update bit, bit 4, is 1. -/
def Fdc.updatesTrack (f : Fdc) : Bool := f.commandClass < 2 || f.command.getLsbD 4

/-- `n` step pulses. -/
def Fdc.stepHead (f : Fdc) (n : Nat) (inward : Bool) : Fdc :=
  let f' := f.setDrive { f.drive with head := moveTrack f.drive.head n inward }
  if f.updatesTrack then { f' with track := BitVec.ofNat 8 (moveTrack f.track.toNat n inward) } else f'

/-- All step pulses are done: Restore clears the track register; then the verify delay or the end. -/
def Fdc.stepsDone (f : Fdc) : Fdc :=
  let f' : Fdc := if f.commandClass = 0 then { f with track := 0 } else f
  if f.command.getLsbD 2 then { f' with phase := .verifying } else f'.finishTypeI false

/-- The stepping state consumes `min(pending, elapsed / step_rate)` step periods. R565 gives no meaning to a step rate of 0: it
counts as 1 T-state. DESIGN CHOICE, unsafe: assumption 22. -/
def Fdc.runSteps (f : Fdc) (t : FdcTiming) : Fdc :=
  match f.phase with
  | .stepping pending inward =>
    let rate := max 1 t.stepRate
    let n := min pending (f.elapsed / rate)
    let f' : Fdc := { f.stepHead n inward with elapsed := f.elapsed - n * rate }
    if n < pending then { f' with phase := .stepping (pending - n) inward } else f'.stepsDone
  | .idle => f
  | .verifying => f
  | .waiting _ _ => f
  | .request _ => f

/-- The verify check after the head-load settle delay: the head must be loaded (bit 3 of the system register enables it),
the drive ready, and the head at the track register. -/
def Fdc.runVerify (f : Fdc) (t : FdcTiming) : Fdc :=
  match f.phase with
  | .verifying =>
    if t.settle + t.headLoad ≤ f.elapsed then
      let f' := f.setDrive { f.drive with headLoaded := true }
      f'.finishTypeI (!(f.system.getLsbD 3 && f.ready && f.drive.head == f.track.toNat))
    else f
  | .idle => f
  | .stepping _ _ => f
  | .waiting _ _ => f
  | .request _ => f

/-! ## Type II and III transfers -/

/-- Where the selected track and side start in the image: track-major, then side, then sector (R566). -/
def Fdc.trackOffset (f : Fdc) : Nat := (f.drive.head * 2 + f.side) * 4096

/-- Where byte `cursor` of the selected sector stands in the image (R566). -/
def Fdc.sectorOffset (f : Fdc) : Nat := f.trackOffset + (f.sector.toNat - 1) * 256 + f.cursor

/-- The sector the registers name is on the track under the head: sector 1 to 16, and the head at the track register. -/
def Fdc.sectorFound (f : Fdc) : Bool :=
  decide (1 ≤ f.sector.toNat) && decide (f.sector.toNat ≤ 16) && f.drive.head == f.track.toNat

/-- The image of the selected drive. -/
def Fdc.image (f : Fdc) : Memory := f.drive.media.getD []

/-- The controller with one byte of the selected drive's image changed. -/
def Fdc.writeImage (f : Fdc) (a : Nat) (v : Byte) : Fdc :=
  f.setDrive { f.drive with media := f.drive.media.map fun m => Memory.write m a v }

/-- The byte a read transfer hands over at its cursor. R565 does not say what Read address hands over: the order track, side,
sector, length code 0x01 for 256 bytes and two check bytes is the WD1793's, with the track under the head and the selected
side: PRESUMED, unsafe, assumption 30. Its sector and check bytes and every byte of a raw track are free (assumption 31). -/
def Fdc.readByteAt (f : Fdc) (x : Transfer) : Byte :=
  match x with
  | .readSector => Memory.read f.image f.sectorOffset
  | .readAddress =>
    match f.cursor with
    | 0 => BitVec.ofNat 8 f.drive.head
    | 1 => BitVec.ofNat 8 f.side
    | 3 => 0x01
    | _ => Config.fdcByte f.draws
  | .readTrack => Config.fdcByte f.draws
  | .writeSector => f.data
  | .writeTrack => f.data

/-- DRQ is raised: a read puts its byte in the data register. -/
def Fdc.raise (f : Fdc) (x : Transfer) : Fdc :=
  { f with data := f.readByteAt x, draws := f.draws + 1, status := f.status ||| 0x02, phase := .request x }

/-- The delay before a byte is over. The first byte of a sector needs the sector to be found. -/
def Fdc.delayDone (f : Fdc) (x : Transfer) : Fdc :=
  match x with
  | .readSector => if f.cursor = 0 ∧ f.sectorFound = false then f.finishError 4 else f.raise x
  | .writeSector => if f.cursor = 0 ∧ f.sectorFound = false then f.finishError 4 else f.raise x
  | .readAddress => f.raise x
  | .readTrack => f.raise x
  | .writeTrack => f.raise x

/-- A transfer whose drive has no media, after an eject or the selection of another drive, ends without raising DRQ (R566).
How it ends is the model's: DESIGN CHOICE, unsafe, assumption 41. -/
def Fdc.dropTransfer (f : Fdc) : Fdc :=
  match f.phase with
  | .waiting _ _ => if f.ready then f else f.finish
  | .request _ => if f.ready then f else f.finish
  | .idle => f
  | .stepping _ _ => f
  | .verifying => f

/-- The waiting state. -/
def Fdc.runDelay (f : Fdc) : Fdc :=
  match f.phase with
  | .waiting x delay => if delay ≤ f.elapsed then ({ f with elapsed := f.elapsed - delay } : Fdc).delayDone x else f
  | .idle => f
  | .stepping _ _ => f
  | .verifying => f
  | .request _ => f

/-- DRQ not serviced within its width: lost data, and the command is aborted as not busy. -/
def Fdc.runRequest (f : Fdc) (t : FdcTiming) : Fdc :=
  match f.phase with
  | .request _ => if t.drqWidth ≤ f.elapsed then f.finishError 2 else f
  | .idle => f
  | .stepping _ _ => f
  | .verifying => f
  | .waiting _ _ => f

/-- `update(clk)`: the elapsed T-states go to the active command, sub-state after sub-state. -/
def Fdc.update (f : Fdc) (t : FdcTiming) (clk : Int) : Fdc :=
  let dt := (clk - f.baseline).toNat
  if f.busy then
    (((({ f with elapsed := f.elapsed + dt, baseline := clk } : Fdc).dropTransfer.runSteps t).runVerify t).runDelay).runRequest t
  else { f with baseline := clk }

/-- How many bytes a transfer has; a sector transfer counts one sector. The six of Read address are the WD1793's (PRESUMED:
assumption 30), and the length of a raw track is a parameter (assumption 22). -/
def transferLength (x : Transfer) (t : FdcTiming) : Nat :=
  match x with
  | .readSector => 256
  | .writeSector => 256
  | .readAddress => 6
  | .readTrack => t.trackBytes
  | .writeTrack => t.trackBytes

/-- The end of a sector: a multi-sector command (bit 4) rolls over to the next, and past the last sector of the track it
ends with the record-not-found condition (R565). -/
def Fdc.sectorDone (f : Fdc) (x : Transfer) (t : FdcTiming) : Fdc :=
  if f.command.getLsbD 4 then
    let f' : Fdc := { f with sector := f.sector + 1, cursor := 0 }
    if 16 ≤ f.sector.toNat then f'.finishError 4 else { f' with phase := .waiting x t.drqPeriod }
  else f.finish

/-- The data register was accessed while DRQ was active: the cursor moves on. Read address leaves the track number in the
sector register (assumption 30). -/
def Fdc.serviced (f : Fdc) (x : Transfer) (t : FdcTiming) : Fdc :=
  let f' : Fdc := { f with status := f.status &&& 0xFD, elapsed := 0, cursor := f.cursor + 1 }
  if f'.cursor < transferLength x t then { f' with phase := .waiting x t.drqPeriod }
  else
    match x with
    | .readSector => f'.sectorDone x t
    | .writeSector => f'.sectorDone x t
    | .readAddress => { f'.finish with sector := BitVec.ofNat 8 f.drive.head }
    | .readTrack => f'.finish
    | .writeTrack => f'.finish

/-! ## Commands (R565) -/

/-- A Type I command starts, its status bits cleared. -/
def Fdc.startTypeI (f : Fdc) (v : Byte) (pending : Nat) (inward : Bool) : Fdc :=
  let f' := f.setDrive { f.drive with headLoaded := v.getLsbD 3 }
  { f' with
    command := v, intrq := false, status := 0x01, statusKind := .typeI, elapsed := 0, inward := inward
    phase := .stepping pending inward }

/-- A Type II or III command starts: at once ended on a drive without media, or, when it writes, on a protected one. R566 says
only that a drive without media reports not-ready and never raises DRQ: that the command ends at once, with INTRQ and no error
bit, is the WD1793's. PRESUMED, unsafe: assumption 30. -/
def Fdc.startTransfer (f : Fdc) (t : FdcTiming) (v : Byte) (x : Transfer) : Fdc :=
  let f' : Fdc :=
    { f with command := v, intrq := false, status := 0x01, statusKind := .typeIIorIII, elapsed := 0, cursor := 0 }
  if !f.ready then f'.finish
  else if (x == .writeSector || x == .writeTrack) && f.drive.writeProtect then f'.finishError 6
  else
    { f'.setDrive { f.drive with headLoaded := true } with phase := .waiting x (t.settle + t.headLoad + t.drqPeriod) }

/-- Force interrupt: accepted even while busy, clears busy and DRQ. Its immediate bit, bit 3, raises INTRQ
(assumption 30). R565 gives no status layout for it: the status keeps the layout and the error bits of the command it
interrupts, and with no command active it has the Type I layout with its held bits 0. PRESUMED, WD1793, unsafe:
assumption 43. -/
def Fdc.forceInterrupt (f : Fdc) (v : Byte) : Fdc :=
  { f with
    command := v, intrq := v.getLsbD 3, phase := .idle, elapsed := 0
    status := if f.busy then f.status &&& 0xFC else 0
    statusKind := if f.busy then f.statusKind else .typeI }

/-- How many steps Seek takes and whether they are inward: from the track register to the data register, both clamped. -/
def Fdc.seekSteps (f : Fdc) : Nat × Bool :=
  let cur := min 79 f.track.toNat
  let target := min 79 f.data.toNat
  if cur < target then (target - cur, true) else (cur - target, false)

/-- A write to the command register: the command's class is its top nibble. -/
def Fdc.writeCommand (f : Fdc) (t : FdcTiming) (v : Byte) : Fdc :=
  if v.toNat / 16 = 0xD then f.forceInterrupt v
  else if f.busy then f
  else
    match v.toNat / 16 with
    | 0x0 => f.startTypeI v f.drive.head false
    | 0x1 => f.startTypeI v f.seekSteps.1 f.seekSteps.2
    | 0x2 => f.startTypeI v 1 f.inward
    | 0x3 => f.startTypeI v 1 f.inward
    | 0x4 => f.startTypeI v 1 true
    | 0x5 => f.startTypeI v 1 true
    | 0x6 => f.startTypeI v 1 false
    | 0x7 => f.startTypeI v 1 false
    | 0x8 => f.startTransfer t v .readSector
    | 0x9 => f.startTransfer t v .readSector
    | 0xA => f.startTransfer t v .writeSector
    | 0xB => f.startTransfer t v .writeSector
    | 0xC => f.startTransfer t v .readAddress
    | 0xE => f.startTransfer t v .readTrack
    | _ => f.startTransfer t v .writeTrack

/-! ## Registers (R564) -/

/-- A read of the data register: while a read transfer has DRQ active the cursor moves on. R565's "reading/writing the data
register while DRQ is active" is taken in the transfer's own direction, so a read in a write transfer moves nothing. DEDUCED,
unsafe: assumption 46. -/
def Fdc.readData (f : Fdc) (t : FdcTiming) : Byte × Fdc :=
  match f.phase with
  | .request .readSector => (f.data, f.serviced .readSector t)
  | .request .readAddress => (f.data, f.serviced .readAddress t)
  | .request .readTrack => (f.data, f.serviced .readTrack t)
  | .request .writeSector => (f.data, f)
  | .request .writeTrack => (f.data, f)
  | .idle => (f.data, f)
  | .stepping _ _ => (f.data, f)
  | .verifying => (f.data, f)
  | .waiting _ _ => (f.data, f)

/-- A write to the data register: while a write transfer has DRQ active the byte goes to the image and the cursor moves on. In
a read transfer a write only sets the data register (DEDUCED, unsafe: assumption 46). What a written track leaves in the
sectors is not specified: each byte of Write track puts a free byte at its cursor's place in the track, from the track's start
again after 4096 (assumption 31). -/
def Fdc.writeData (f : Fdc) (t : FdcTiming) (v : Byte) : Fdc :=
  let f' : Fdc := { f with data := v }
  match f.phase with
  | .request .writeSector => (f'.writeImage f.sectorOffset v).serviced .writeSector t
  | .request .writeTrack =>
    ({ f'.writeImage (f.trackOffset + f.cursor % 4096) (Config.fdcByte f.draws) with draws := f.draws + 1 } : Fdc).serviced
      .writeTrack t
  | .request .readSector => f'
  | .request .readAddress => f'
  | .request .readTrack => f'
  | .idle => f'
  | .stepping _ _ => f'
  | .verifying => f'
  | .waiting _ _ => f'

/-- A read of the status register: it clears INTRQ (assumption 30). -/
def Fdc.readStatus (f : Fdc) : Byte × Fdc := (f.statusByte, { f with intrq := false, draws := f.draws + 1 })

/-- A read of register 0 to 3 (R564): status, track, sector, data. -/
def Fdc.readReg (f : Fdc) (t : FdcTiming) (reg : Nat) : Byte × Fdc :=
  match reg with
  | 0 => f.readStatus
  | 1 => (f.track, f)
  | 2 => (f.sector, f)
  | _ => f.readData t

/-- A write to register 0 to 3 (R564): command, track, sector, data. R565 speaks only of a command written while one is
active: a track or sector register written then takes the value, and the transfer goes on with it. DESIGN CHOICE, unsafe:
assumption 41. -/
def Fdc.writeReg (f : Fdc) (t : FdcTiming) (reg : Nat) (v : Byte) : Fdc :=
  match reg with
  | 0 => f.writeCommand t v
  | 1 => { f with track := v }
  | 2 => { f with sector := v }
  | _ => f.writeData t v

/-- The system register's read value (R564): bit 7 INTRQ, bit 6 DRQ, the others 1. -/
def Fdc.systemByte (f : Fdc) : Byte :=
  let drq :=
    match f.phase with
    | .request _ => true
    | .idle => false
    | .stepping _ _ => false
    | .verifying => false
    | .waiting _ _ => false
  BitVec.ofBool f.intrq ++ BitVec.ofBool drq ++ 0x3F#6

/-- The controller's reset (R601): no command, its registers 0; each drive's head position and media are kept. -/
def Fdc.controllerReset (f : Fdc) : Fdc :=
  { f with
    command := 0, status := 0, statusKind := .afterReset, track := 0, sector := 0, data := 0, phase := .idle
    elapsed := 0, cursor := 0, inward := false, intrq := false }

/-- A write to the system register (R564): bit 2 = 0 resets the controller. Another drive or side selected while a command is
active is taken, and the command goes on there. DESIGN CHOICE, unsafe: assumption 41. -/
def Fdc.writeSystem (f : Fdc) (v : Byte) : Fdc :=
  let f' : Fdc := if v.getLsbD 2 then f else f.controllerReset
  { f' with system := v }

/-- The frame end (R570). -/
def Fdc.frameEnd (f : Fdc) (budget : Nat) : Fdc := { f with baseline := f.baseline - (budget : Int) }

/-- A machine reset: the controller's reset, system register 0, baseline 0, head positions and media kept (R601). R601 says
nothing of the heads' load state, INTRQ and the step direction, which are cleared, and of the write-protect flags, which are
kept. DESIGN CHOICE, unsafe: assumption 40. -/
def Fdc.machineReset (f : Fdc) : Fdc :=
  { f.controllerReset with
    system := 0, baseline := 0, drives := f.drives.map fun d => { d with headLoaded := false } }

/-! ## Media (R566) -/

/-- The size of a sector-addressed image. -/
def diskBytes : Nat := 655360

/-- A directory-compressed image's parts: its file count, its 14-byte directory entries and its sectors. The signature is
"SINCLAIR", the count at most 128. -/
def compressedParts (bytes : List Byte) : Option (Nat × List Byte × List Byte) :=
  match bytes.drop 8 with
  | [] => none
  | n :: rest =>
    if bytes.take 8 = [0x53, 0x49, 0x4E, 0x43, 0x4C, 0x41, 0x49, 0x52] ∧ n.toNat ≤ 128 ∧ n.toNat * 14 ≤ rest.length then
      some (n.toNat, rest.take (n.toNat * 14), rest.drop (n.toNat * 14))
    else none

/-- The directory of the expanded image: each entry gains its first sector and track; `next` is the next free sector,
counted from the start of the disk. Answers the 16-byte entries and the next free sector. -/
def expandDirectory : Nat → Nat → List Byte → List Byte × Nat
  | 0, next, _ => ([], next)
  | k + 1, next, entries =>
    let len := ((entries[13]?).getD 0).toNat
    let rest := expandDirectory k (next + len) (entries.drop 14)
    (entries.take 14 ++ [BitVec.ofNat 8 (next % 16), BitVec.ofNat 8 (next / 16)] ++ rest.1, rest.2)

/-- The system sector of the expanded image (PRESUMED, TR-DOS: assumption 32): free-space pointer, format byte 0x16, file
count, free sectors, the TR-DOS mark 0x10, deleted-file count and volume label of spaces. -/
def systemSector (files next : Nat) : List Byte :=
  List.replicate 225 0 ++
    [BitVec.ofNat 8 (next % 16), BitVec.ofNat 8 (next / 16), 0x16, BitVec.ofNat 8 files,
      BitVec.ofNat 8 ((2560 - next) % 256), BitVec.ofNat 8 ((2560 - next) / 256), 0x10] ++
    List.replicate 12 0 ++ [0] ++ List.replicate 8 0x20 ++ List.replicate 3 0

/-- A directory-compressed image expanded into the sector-addressed layout; none when it is malformed or does not fit. -/
def expandCompressed (bytes : List Byte) : Option Memory :=
  match compressedParts bytes with
  | none => none
  | some (n, entries, payload) =>
    let dir := expandDirectory n 16 entries
    if payload.length = (dir.2 - 16) * 256 ∧ dir.2 ≤ 2560 then
      some
        (Memory.ofBytes 0
          (dir.1 ++ List.replicate (2048 - dir.1.length) 0 ++ systemSector n dir.2 ++ List.replicate 1792 0 ++ payload))
    else none

/-- The image a load call reads, or why it fails (R521): a raw image of another size than 655360 bytes is a size mismatch,
a malformed compressed image a format error. -/
def decodeImage (format : DiskFormat) (bytes : List Byte) : Except HostError Memory :=
  match format with
  | .raw => if bytes.length = diskBytes then .ok (Memory.ofBytes 0 bytes) else .error .ioError
  | .compressed =>
    match expandCompressed bytes with
    | some m => .ok m
    | none => .error .formatError

/-- The host loads an image (R566, R584), or the load fails and nothing changes. Where the drive's write-protect flag comes
from is not specified: the load call carries it. DESIGN CHOICE, unsafe: assumption 42. -/
def Fdc.load (f : Fdc) (k : Fin 4) (format : DiskFormat) (bytes : List Byte) (writeProtect : Bool) : Except HostError Fdc :=
  match decodeImage format bytes with
  | .error e => .error e
  | .ok m => .ok { f with drives := f.drives.set k { f.drives[k] with media := some m, writeProtect := writeProtect } }

/-- The host removes an image; the drive's write-protect flag keeps its value (assumption 42). -/
def Fdc.eject (f : Fdc) (k : Fin 4) : Fdc := { f with drives := f.drives.set k { f.drives[k] with media := none } }

/-- What the host saves from a drive (R584): the 655360 bytes of its image. -/
def Fdc.save (f : Fdc) (k : Fin 4) : Except HostError (List Byte) :=
  match f.drives[k].media with
  | none => .error .mediaAbsent
  | some m => .ok ((List.range diskBytes).map (Memory.read m))

end Sys2Proof.Machine
end

