-- ==== Sys2Proof/Machine/Tape.lean ====
section
/-! DEFINITION. The tape deck (spec/60_exceptions.md R569). -/

namespace Sys2Proof.Machine

/-- The byte of the image at an offset. -/
def Tape.byteAt (t : Tape) (k : Nat) : Byte := (t.image[k]?).getD 0

/-- The length of the current block: a 16-bit little-endian value before it. -/
def Tape.blockLength (t : Tape) : Nat := (t.byteAt t.pos).toNat + 256 * (t.byteAt (t.pos + 1)).toNat

/-- The current block stands whole in the image. -/
def Tape.hasBlock (t : Tape) : Bool :=
  decide (t.pos + 2 + t.blockLength ≤ t.image.length) && decide (t.pos + 2 ≤ t.image.length)

/-- A byte of the current block. -/
def Tape.blockByte (t : Tape) (k : Nat) : Byte := t.byteAt (t.pos + 2 + k)

/-- The pilot pulses of the current block: a flag byte below 0x80 is a header's. A block of length 0 has no flag byte and
takes the data count: DESIGN CHOICE, unsafe, assumption 33. -/
def Tape.pilotCount (t : Tape) (w : TapeTiming) : Nat :=
  if t.blockLength ≠ 0 ∧ (t.blockByte 0).toNat < 0x80 then w.pilotHeader else w.pilotData

/-- The deck at a block boundary: back to silence, with the next block under the cursor. -/
def Tape.nextBlock (t : Tape) : Tape := { t with pos := t.pos + 2 + t.blockLength, phase := .silence }

/-- The data state at a byte, or the next block when the block has no such byte. -/
def Tape.dataAt (t : Tape) (byte : Nat) : Tape :=
  if byte < t.blockLength then { t with phase := .data byte 7 false } else t.nextBlock

/-- How long the present state lasts; a width of 0 counts as 1. None while stopped. -/
def Tape.width (t : Tape) (w : TapeTiming) : Option Nat :=
  match t.phase with
  | .stop => none
  | .silence => some (max 1 w.silence)
  | .pilot _ => some (max 1 w.pilot)
  | .sync1 => some (max 1 w.sync1)
  | .sync2 => some (max 1 w.sync2)
  | .data byte bit _ => some (max 1 (if (t.blockByte byte).getLsbD bit then w.bit1 else w.bit0))

/-- The end of the present state: every pulse boundary toggles the latch once; the end of the silence is none
(assumption 35), and where no block is left it stops the deck. -/
def Tape.boundary (t : Tape) (w : TapeTiming) : Tape :=
  match t.phase with
  | .stop => t
  | .silence =>
    if t.hasBlock then { t with phase := if t.pilotCount w = 0 then .sync1 else .pilot (t.pilotCount w) }
    else { t with phase := .stop }
  | .pilot left => { t with latch := !t.latch, phase := if left ≤ 1 then .sync1 else .pilot (left - 1) }
  | .sync1 => { t with latch := !t.latch, phase := .sync2 }
  | .sync2 => { t with latch := !t.latch }.dataAt 0
  | .data byte bit false => { t with latch := !t.latch, phase := .data byte bit true }
  | .data byte 0 true => { t with latch := !t.latch }.dataAt (byte + 1)
  | .data byte (bit + 1) true => { t with latch := !t.latch, phase := .data byte bit false }

/-- Consume the elapsed T-states, one state after the other; each state lasts at least one, so `fuel` T-states suffice. -/
def Tape.consume (w : TapeTiming) : Nat → Tape → Tape
  | 0, t => t
  | fuel + 1, t =>
    match t.width w with
    | none => { t with elapsed := 0 }
    | some n => if n ≤ t.elapsed then Tape.consume w fuel ({ t with elapsed := t.elapsed - n }.boundary w) else t

/-- `update(clk)`. -/
def Tape.update (t : Tape) (w : TapeTiming) (clk : Int) : Tape :=
  let t' : Tape := { t with elapsed := t.elapsed + (clk - t.baseline).toNat, baseline := clk }
  Tape.consume w (t'.elapsed + 1) t'

/-- `play()`: the state machine starts with the silence before the current block; without an image it stays stopped. -/
def Tape.play (t : Tape) : Tape :=
  { t with phase := if t.image.isEmpty then .stop else .silence, elapsed := 0 }

/-- `stop()`: the state machine is aborted; the image and the block it stands at are kept. -/
def Tape.halt (t : Tape) : Tape := { t with phase := .stop, elapsed := 0 }

/-- `rewindToStart()`. -/
def Tape.rewind (t : Tape) : Tape := { t with phase := .stop, elapsed := 0, pos := 0 }

/-- The frame end (R570). -/
def Tape.frameEnd (t : Tape) (budget : Nat) : Tape := { t with baseline := t.baseline - (budget : Int) }

end Sys2Proof.Machine
end

