-- ==== Sys2Proof/Machine/Ports.lean ====
section
/-! DEFINITION. The port bus (spec/20_memory.md R100, R101; spec/60_exceptions.md R560 to R570): which device answers a read,
which devices take a write, and the catch-up before each access. Every access carries
`ACCESS_CLK` (R109, R613). -/

namespace Sys2Proof.Machine

/-! ## Decodes (R101) -/

/-- The floppy controller: low byte 0x1F, 0x3F, 0x5F or 0x7F, while the disk ROM is selected. -/
def State.fdcOwns (s : State) (p : Word) : Bool := s.diskActive && p.extractLsb' 0 5 == 0x1F#5 && !p.getLsbD 7

/-- Its register: port bits 6:5. -/
def fdcRegister (p : Word) : Nat := (p.extractLsb' 5 2).toNat

/-- The disk interface's system register: low byte 0xFF, while the disk ROM is selected. -/
def State.systemOwns (s : State) (p : Word) : Bool := s.diskActive && p.lo == 0xFF

/-- The AY register-select port, which a read also uses. -/
def aySelectOwns (p : Word) : Bool := p.getLsbD 15 && p.getLsbD 14 && !p.getLsbD 1

/-- The AY data port. -/
def ayDataOwns (p : Word) : Bool := p.getLsbD 15 && !p.getLsbD 14 && !p.getLsbD 1

/-- The ULA. -/
def ulaOwns (p : Word) : Bool := !p.getLsbD 0

/-- The bank latch, on a 128K machine. -/
def State.latchOwns (s : State) (p : Word) : Bool := s.params.variant == .m128 && !p.getLsbD 15 && !p.getLsbD 1

/-! ## Catch-up (R570) -/

/-- The floppy controller caught up to a clock value. -/
def State.syncFdc (s : State) (clk : Int) : State := { s with fdc := s.fdc.update s.params.fdc clk }

/-- The AY caught up to a clock value. -/
def State.syncAy (s : State) (clk : Int) : State := { s with ay := s.ay.update s.params.audio s.params.ayTables clk }

/-- The tape deck caught up to a clock value. -/
def State.syncTape (s : State) (clk : Int) : State := { s with tape := s.tape.update s.params.tape clk }

/-! ## Reads (R560) -/

/-- A floppy-controller register is read. -/
def State.readFdcPort (s : State) (p : Word) : Byte × State :=
  let s' := s.syncFdc s.accessClk
  let out := s'.fdc.readReg s.params.fdc (fdcRegister p)
  (out.1, { s' with fdc := out.2 })

/-- The system register is read. -/
def State.readSystemPort (s : State) : Byte × State := ((s.syncFdc s.accessClk).fdc.systemByte, s.syncFdc s.accessClk)

/-- The selected AY register is read. -/
def State.readAyPort (s : State) : Byte × State := ((s.syncAy s.accessClk).ay.read, s.syncAy s.accessClk)

/-- The ULA port is read: raster and tape deck catch up first. -/
def State.readUlaPort (s : State) (p : Word) : Byte × State :=
  let s' := (s.syncVideo s.accessClk).syncTape s.accessClk
  (s'.ula.portByte p s'.tape.latch, s')

/-- `IoRead(p)`: the first device that claims the port answers; the order is floppy controller, system register, AY, ULA,
and a read none claims is the floating bus (R560, R562). -/
def State.ioRead (s : State) (p : Word) : Byte × State :=
  if s.fdcOwns p then s.readFdcPort p
  else if s.systemOwns p then s.readSystemPort
  else if aySelectOwns p then s.readAyPort
  else if ulaOwns p then s.readUlaPort p
  else (s.floatingBus, s)

/-- The byte `IoRead(p)` answers. -/
def State.portValue (s : State) (p : Word) : Byte := (s.ioRead p).1

/-- The state after `IoRead(p)`. -/
def State.portRead (s : State) (p : Word) : State := (s.ioRead p).2

/-! ## Writes (R100, R560) -/

/-- The floppy controller's part of a write. -/
def State.writeFdcPort (s : State) (p : Word) (v : Byte) : State :=
  if s.fdcOwns p then
    { s with fdc := (s.fdc.update s.params.fdc s.accessClk).writeReg s.params.fdc (fdcRegister p) v }
  else if s.systemOwns p then { s with fdc := (s.fdc.update s.params.fdc s.accessClk).writeSystem v }
  else s

/-- The AY's part of a write. -/
def State.writeAyPort (s : State) (p : Word) (v : Byte) : State :=
  if aySelectOwns p then { s with ay := (s.syncAy s.accessClk).ay.select v }
  else if ayDataOwns p then { s with ay := (s.syncAy s.accessClk).ay.write v }
  else s

/-- The ULA's part of a write. -/
def State.writeUlaPort (s : State) (p : Word) (v : Byte) : State :=
  if ulaOwns p then { s with ula := s.ula.write s.params.video s.accessClk v } else s

/-- The bank latch's part of a write (R94, R563): nothing while the lock bit is 1; the ROM bit waits while the disk ROM is
active. -/
def State.writeLatchPort (s : State) (p : Word) (v : Byte) : State :=
  if s.latchOwns p && !s.latch.getLsbD 5 then
    let s' := (s.selectRamBank (v.extractLsb' 0 3)).syncVideo s.accessClk
    if s.diskActive then { s' with latch := v }
    else ({ s' with latch := v } : State).setRomBank (if v.getLsbD 4 then .rom1 else .rom0)
  else s

/-- `IoWrite(p, v)`: every device whose decode matches takes the write. -/
def State.ioWrite (s : State) (p : Word) (v : Byte) : State :=
  (((s.writeFdcPort p v).writeAyPort p v).writeUlaPort p v).writeLatchPort p v

end Sys2Proof.Machine
end

