-- ==== Sys2Proof/Machine/Io.lean ====
section
/-! DEFINITION. The input and output group (spec/49_io.md R480 to R494). A meaning
starts from the state whose PC is past the instruction and ends with its cost in T-states (spec/00_scope.md R13), taken from
its row of the cost table. -/

namespace Sys2Proof.Machine

/-- The port `IN A,(n)` and `OUT (n),A` address: A above `n` (R101). -/
def State.portAN (s : State) (n : Byte) : Word := Word.ofBytes s.cpu.a n

/-- `IN A,(n)` (R480). -/
def execInAMN (n : Byte) (s : State) : Host.Outcome State Fault Refusal :=
  .next ((((s.portRead (s.portAN n)).setA (s.portValue (s.portAN n))).setMemptr (s.portAN n + 1)).charge (.inAMN n))

/-- `IN r,(C)` (R481). -/
def execInRMC (r : Reg8) (s : State) : Host.Outcome State Fault Refusal :=
  .next
    (((((s.portRead s.bc).setReg8 r (s.portValue s.bc)).setF (inF (s.portValue s.bc) s.cpu.f)).setMemptr
      (s.bc + 1)).charge (.inRMC r))

/-- `IN F,(C)` (R482). -/
def execInFMC (s : State) : Host.Outcome State Fault Refusal :=
  .next ((((s.portRead s.bc).setF (inF (s.portValue s.bc) s.cpu.f)).setMemptr (s.bc + 1)).charge .inFMC)

/-- `OUT (n),A` (R487). -/
def execOutMNA (n : Byte) (s : State) : Host.Outcome State Fault Refusal :=
  .next
    (((s.ioWrite (s.portAN n) s.cpu.a).setMemptr (Word.ofBytes s.cpu.a (n + 1))).charge (.outMNA n))

/-- `OUT (C),r` (R488). -/
def execOutMCR (r : Reg8) (s : State) : Host.Outcome State Fault Refusal :=
  .next (((s.ioWrite s.bc (s.reg8 r)).setMemptr (s.bc + 1)).charge (.outMCR r))

/-- `OUT (C),0` (R489). -/
def execOutMC0 (s : State) : Host.Outcome State Fault Refusal :=
  .next (((s.ioWrite s.bc s.params.outCZero).setMemptr (s.bc + 1)).charge .outMC0)

/-- One iteration of a block input (R483, R485): the port is BC before the decrement of B. -/
def State.blockIn (s : State) (up : Bool) : State :=
  let v := s.portValue s.bc
  let b := s.cpu.b - 1
  let k := v.toNat + (if up then s.cpu.c + 1 else s.cpu.c - 1).toNat
  let s1 := (s.portRead s.bc).setMemptr (if up then s.bc + 1 else s.bc - 1)
  (((s1.writeByte s.hl v).setB b).stepHl up).setF (ioBlockF v b k)

/-- One iteration of a block output (R490, R492): the port is BC after the decrement of B, and L is the new one. -/
def State.blockOut (s : State) (up : Bool) : State :=
  let v := s.readByte s.hl
  let s1 := s.setB (s.cpu.b - 1)
  let s2 := ((s1.ioWrite s1.bc v).stepHl up).setMemptr (if up then s1.bc + 1 else s1.bc - 1)
  s2.setF (ioBlockF v s1.cpu.b (v.toNat + s2.cpu.l.toNat))

/-- The end of a step of a repeating block input or output (R270): MEMPTR is the single form's, and the row of the
instruction `i` gives the two costs. -/
def State.repeatIo (s : State) (i : Instr) : State := if s.cpu.b != 0 then s.repeatPc.chargeTaken i else s.charge i

/-- `INI` (R483). -/
def execIni (s : State) : Host.Outcome State Fault Refusal := .next ((s.blockIn true).charge .ini)

/-- `IND` (R485). -/
def execInd (s : State) : Host.Outcome State Fault Refusal := .next ((s.blockIn false).charge .ind)

/-- `OUTI` (R490). -/
def execOuti (s : State) : Host.Outcome State Fault Refusal := .next ((s.blockOut true).charge .outi)

/-- `OUTD` (R492). -/
def execOutd (s : State) : Host.Outcome State Fault Refusal := .next ((s.blockOut false).charge .outd)

/-- `INIR` (R484): one iteration. -/
def execInir (s : State) : Host.Outcome State Fault Refusal := .next ((s.blockIn true).repeatIo .inir)

/-- `INDR` (R486): one iteration. -/
def execIndr (s : State) : Host.Outcome State Fault Refusal := .next ((s.blockIn false).repeatIo .indr)

/-- `OTIR` (R491): one iteration. -/
def execOtir (s : State) : Host.Outcome State Fault Refusal := .next ((s.blockOut true).repeatIo .otir)

/-- `OTDR` (R493): one iteration. -/
def execOtdr (s : State) : Host.Outcome State Fault Refusal := .next ((s.blockOut false).repeatIo .otdr)

end Sys2Proof.Machine
end

