-- ==== Sys2Proof/Machine/Jump.lean ====
section
/-! DEFINITION. The jump, call and return group (spec/48_jump_call_return.md R440 to R453). A meaning
starts from the state whose PC is past the instruction and ends with its cost in T-states (spec/00_scope.md R13), taken from
its row of the cost table. -/

namespace Sys2Proof.Machine

/-- `JP nn` (R440). -/
def execJpNn (nn : Word) (s : State) : Host.Outcome State Fault Refusal := .next ((s.jump nn).charge (.jpNn nn))

/-- `JP cc,nn` (R441): MEMPTR is set whether or not it jumps. -/
def execJpCcNn (cc : Cond) (nn : Word) (s : State) : Host.Outcome State Fault Refusal :=
  .next ((if s.cond cc then s.jump nn else s.setMemptr nn).charge (.jpCcNn cc nn))

/-- `JR e` (R442). -/
def execJr (e : Byte) (s : State) : Host.Outcome State Fault Refusal := .next ((s.jump (s.relative e)).charge (.jr e))

/-- `JR cc,e` (R443). -/
def execJrCc (cc : JrCond) (e : Byte) (s : State) : Host.Outcome State Fault Refusal :=
  .next (if s.cond cc.toCond then (s.jump (s.relative e)).chargeTaken (.jrCc cc e) else s.charge (.jrCc cc e))

/-- `JP (HL)` (R444). -/
def execJpMHl (s : State) : Host.Outcome State Fault Refusal := .next ((s.setPc s.hl).charge .jpMHl)

/-- `JP (IX)` (R445). -/
def execJpMIx (s : State) : Host.Outcome State Fault Refusal := .next ((s.setPc (s.xy .ix)).charge .jpMIx)

/-- `JP (IY)` (R445). -/
def execJpMIy (s : State) : Host.Outcome State Fault Refusal := .next ((s.setPc (s.xy .iy)).charge .jpMIy)

/-- `DJNZ e` (R446). -/
def execDjnz (e : Byte) (s : State) : Host.Outcome State Fault Refusal :=
  .next
    (if s.cpu.b - 1 != 0 then ((s.setB (s.cpu.b - 1)).jump (s.relative e)).chargeTaken (.djnz e)
      else (s.setB (s.cpu.b - 1)).charge (.djnz e))

/-- `CALL nn` (R447). -/
def execCallNn (nn : Word) (s : State) : Host.Outcome State Fault Refusal := .next ((s.call nn).charge (.callNn nn))

/-- `CALL cc,nn` (R448): MEMPTR is set whether or not it calls. -/
def execCallCcNn (cc : Cond) (nn : Word) (s : State) : Host.Outcome State Fault Refusal :=
  .next (if s.cond cc then (s.call nn).chargeTaken (.callCcNn cc nn) else (s.setMemptr nn).charge (.callCcNn cc nn))

/-- `RST p` (R453): the target is `y * 8`. -/
def execRstP (y : BitVec 3) (s : State) : Host.Outcome State Fault Refusal :=
  .next ((s.call ((y.setWidth 16) <<< 3)).charge (.rstP y))

/-- `RET` (R449). -/
def execRet (s : State) : Host.Outcome State Fault Refusal := .next (s.popPc.charge .ret)

/-- `RET cc` (R450). -/
def execRetCc (cc : Cond) (s : State) : Host.Outcome State Fault Refusal :=
  .next (if s.cond cc then s.popPc.chargeTaken (.retCc cc) else s.charge (.retCc cc))

/-- `RETI` (R451). -/
def execReti (s : State) : Host.Outcome State Fault Refusal := .next (s.returnFromInterrupt.charge .reti)

/-- `RETN` (R452), for every y of its row. -/
def execRetn (y : BitVec 3) (s : State) : Host.Outcome State Fault Refusal :=
  .next (s.returnFromInterrupt.charge (.retn y))

end Sys2Proof.Machine
end

