-- ==== Sys2Proof/Machine/Load16.lean ====
section
/-! DEFINITION. The 16-bit load group (spec/41_load16.md R230 to R243). A meaning
starts from the state whose PC is past the instruction and ends with its cost in T-states (spec/00_scope.md R13), taken from
its row of the cost table. -/

namespace Sys2Proof.Machine

/-- `LD rr,nn` (R230). -/
def execLdRrNn (p : RegPair) (nn : Word) (s : State) : Host.Outcome State Fault Refusal :=
  .next ((s.setPair p nn).charge (.ldRrNn p nn))

/-- `LD HL,(nn)` (R232). -/
def execLdHlMNn (nn : Word) (s : State) : Host.Outcome State Fault Refusal :=
  .next (((s.setHl (s.readWord nn)).setMemptr (nn + 1)).charge (.ldHlMNn nn))

/-- `LD rr,(nn)` (R233). -/
def execLdRrMNn (p : RegPair) (nn : Word) (s : State) : Host.Outcome State Fault Refusal :=
  .next (((s.setPair p (s.readWord nn)).setMemptr (nn + 1)).charge (.ldRrMNn p nn))

/-- `LD (nn),HL` (R235). -/
def execLdMNnHl (nn : Word) (s : State) : Host.Outcome State Fault Refusal :=
  .next (((s.writeWord nn s.hl).setMemptr (nn + 1)).charge (.ldMNnHl nn))

/-- `LD (nn),rr` (R236). -/
def execLdMNnRr (p : RegPair) (nn : Word) (s : State) : Host.Outcome State Fault Refusal :=
  .next (((s.writeWord nn (s.pair p)).setMemptr (nn + 1)).charge (.ldMNnRr p nn))

/-- `LD SP,HL` (R238). -/
def execLdSpHl (s : State) : Host.Outcome State Fault Refusal := .next ((s.setSp s.hl).charge .ldSpHl)

/-- `PUSH qq` (R240). -/
def execPushQq (q : StackPair) (s : State) : Host.Outcome State Fault Refusal :=
  .next ((s.push16 (s.stackPair q)).charge (.pushQq q))

/-- `POP qq` (R242). -/
def execPopQq (q : StackPair) (s : State) : Host.Outcome State Fault Refusal :=
  .next ((s.popSp.setStackPair q s.popped).charge (.popQq q))

/-- `LD IX,nn` (R231). -/
def execLdIxNn (nn : Word) (s : State) : Host.Outcome State Fault Refusal :=
  .next ((s.setXy .ix nn).charge (.ldIxNn nn))

/-- `LD IX,(nn)` (R234). -/
def execLdIxMNn (nn : Word) (s : State) : Host.Outcome State Fault Refusal :=
  .next (((s.setXy .ix (s.readWord nn)).setMemptr (nn + 1)).charge (.ldIxMNn nn))

/-- `LD (nn),IX` (R237). -/
def execLdMNnIx (nn : Word) (s : State) : Host.Outcome State Fault Refusal :=
  .next (((s.writeWord nn (s.xy .ix)).setMemptr (nn + 1)).charge (.ldMNnIx nn))

/-- `LD SP,IX` (R239). -/
def execLdSpIx (s : State) : Host.Outcome State Fault Refusal := .next ((s.setSp (s.xy .ix)).charge .ldSpIx)

/-- `PUSH IX` (R241). -/
def execPushIx (s : State) : Host.Outcome State Fault Refusal := .next ((s.push16 (s.xy .ix)).charge .pushIx)

/-- `POP IX` (R243). -/
def execPopIx (s : State) : Host.Outcome State Fault Refusal := .next ((s.popSp.setXy .ix s.popped).charge .popIx)

/-- `LD IY,nn` (R231). -/
def execLdIyNn (nn : Word) (s : State) : Host.Outcome State Fault Refusal :=
  .next ((s.setXy .iy nn).charge (.ldIyNn nn))

/-- `LD IY,(nn)` (R234). -/
def execLdIyMNn (nn : Word) (s : State) : Host.Outcome State Fault Refusal :=
  .next (((s.setXy .iy (s.readWord nn)).setMemptr (nn + 1)).charge (.ldIyMNn nn))

/-- `LD (nn),IY` (R237). -/
def execLdMNnIy (nn : Word) (s : State) : Host.Outcome State Fault Refusal :=
  .next (((s.writeWord nn (s.xy .iy)).setMemptr (nn + 1)).charge (.ldMNnIy nn))

/-- `LD SP,IY` (R239). -/
def execLdSpIy (s : State) : Host.Outcome State Fault Refusal := .next ((s.setSp (s.xy .iy)).charge .ldSpIy)

/-- `PUSH IY` (R241). -/
def execPushIy (s : State) : Host.Outcome State Fault Refusal := .next ((s.push16 (s.xy .iy)).charge .pushIy)

/-- `POP IY` (R243). -/
def execPopIy (s : State) : Host.Outcome State Fault Refusal := .next ((s.popSp.setXy .iy s.popped).charge .popIy)

end Sys2Proof.Machine
end

