-- ==== Sys2Proof/Machine/Load8.lean ====
section
/-! DEFINITION. The 8-bit load group (spec/40_load8.md R200 to R219). A meaning
starts from the state whose PC is past the instruction and ends with its cost in T-states (spec/00_scope.md R13), taken from
its row of the cost table. -/

namespace Sys2Proof.Machine

/-- `LD r,r'` (R200). -/
def execLdRR (t : Reg8) (r : Reg8) (s : State) : Host.Outcome State Fault Refusal :=
  .next ((s.setReg8 t (s.reg8 r)).charge (.ldRR t r))

/-- `LD r,n` (R201). -/
def execLdRN (r : Reg8) (n : Byte) (s : State) : Host.Outcome State Fault Refusal :=
  .next ((s.setReg8 r n).charge (.ldRN r n))

/-- `LD r,(HL)` (R202). -/
def execLdRMHl (r : Reg8) (s : State) : Host.Outcome State Fault Refusal :=
  .next ((s.setReg8 r (s.readByte s.hl)).charge (.ldRMHl r))

/-- `LD (HL),r` (R203). -/
def execLdMHlR (r : Reg8) (s : State) : Host.Outcome State Fault Refusal :=
  .next ((s.writeByte s.hl (s.reg8 r)).charge (.ldMHlR r))

/-- `LD (HL),n` (R204). -/
def execLdMHlN (n : Byte) (s : State) : Host.Outcome State Fault Refusal :=
  .next ((s.writeByte s.hl n).charge (.ldMHlN n))

/-- `LD r,(XY+d)` (R205). -/
def State.loadIndexed (s : State) (x : IdxReg) (r : Reg8) (d : Byte) : State :=
  (s.setReg8 r (s.readByte (s.ea x d))).setMemptr (s.ea x d)

/-- `LD (XY+d),r` and `LD (XY+d),n` (R206, R207), `v` being the byte stored. -/
def State.storeIndexed (s : State) (x : IdxReg) (d : Byte) (v : Byte) : State :=
  (s.writeByte (s.ea x d) v).setMemptr (s.ea x d)

/-- The 8-bit loads between registers and index halves (R218). -/
def State.moveHalf (s : State) (x : IdxReg) (t r : HReg) : State := s.setHreg x t (s.hreg x r)

/-- `LD r,(IX+d)` (R205). -/
def execLdRMIxd (r : Reg8) (d : Byte) (s : State) : Host.Outcome State Fault Refusal :=
  .next ((s.loadIndexed .ix r d).charge (.ldRMIxd r d))

/-- `LD (IX+d),r` (R206). -/
def execLdMIxdR (d : Byte) (r : Reg8) (s : State) : Host.Outcome State Fault Refusal :=
  .next ((s.storeIndexed .ix d (s.reg8 r)).charge (.ldMIxdR d r))

/-- `LD (IX+d),n` (R207). -/
def execLdMIxdN (d : Byte) (n : Byte) (s : State) : Host.Outcome State Fault Refusal :=
  .next ((s.storeIndexed .ix d n).charge (.ldMIxdN d n))

/-- `LD r,IXh` and `LD IXh,r` (R218). -/
def execLdRIxh (t : HReg) (r : HReg) (s : State) : Host.Outcome State Fault Refusal :=
  .next ((s.moveHalf .ix t r).charge (.ldRIxh t r))

/-- `LD IXh,n` (R219). -/
def execLdIxhN (h : Half) (n : Byte) (s : State) : Host.Outcome State Fault Refusal :=
  .next ((s.setHalf .ix h n).charge (.ldIxhN h n))

/-- `LD r,(IY+d)` (R205). -/
def execLdRMIyd (r : Reg8) (d : Byte) (s : State) : Host.Outcome State Fault Refusal :=
  .next ((s.loadIndexed .iy r d).charge (.ldRMIyd r d))

/-- `LD (IY+d),r` (R206). -/
def execLdMIydR (d : Byte) (r : Reg8) (s : State) : Host.Outcome State Fault Refusal :=
  .next ((s.storeIndexed .iy d (s.reg8 r)).charge (.ldMIydR d r))

/-- `LD (IY+d),n` (R207). -/
def execLdMIydN (d : Byte) (n : Byte) (s : State) : Host.Outcome State Fault Refusal :=
  .next ((s.storeIndexed .iy d n).charge (.ldMIydN d n))

/-- `LD r,IYh` and `LD IYh,r` (R218). -/
def execLdRIyh (t : HReg) (r : HReg) (s : State) : Host.Outcome State Fault Refusal :=
  .next ((s.moveHalf .iy t r).charge (.ldRIyh t r))

/-- `LD IYh,n` (R219). -/
def execLdIyhN (h : Half) (n : Byte) (s : State) : Host.Outcome State Fault Refusal :=
  .next ((s.setHalf .iy h n).charge (.ldIyhN h n))

/-- `LD A,(BC)` (R208). -/
def execLdAMBc (s : State) : Host.Outcome State Fault Refusal :=
  .next (((s.setA (s.readByte s.bc)).setMemptr (s.bc + 1)).charge .ldAMBc)

/-- `LD A,(DE)` (R209). -/
def execLdAMDe (s : State) : Host.Outcome State Fault Refusal :=
  .next (((s.setA (s.readByte s.de)).setMemptr (s.de + 1)).charge .ldAMDe)

/-- `LD A,(nn)` (R210). -/
def execLdAMNn (nn : Word) (s : State) : Host.Outcome State Fault Refusal :=
  .next (((s.setA (s.readByte nn)).setMemptr (nn + 1)).charge (.ldAMNn nn))

/-- `LD (a),A` (R211 to R213): MEMPTR gets A above the low address byte plus 1, without a carry. -/
def State.storeA (s : State) (a : Word) : State :=
  (s.writeByte a s.cpu.a).setMemptr (Word.ofBytes s.cpu.a (a.lo + 1))

/-- `LD (BC),A` (R211). -/
def execLdMBcA (s : State) : Host.Outcome State Fault Refusal := .next ((s.storeA s.bc).charge .ldMBcA)

/-- `LD (DE),A` (R212). -/
def execLdMDeA (s : State) : Host.Outcome State Fault Refusal := .next ((s.storeA s.de).charge .ldMDeA)

/-- `LD (nn),A` (R213). -/
def execLdMNnA (nn : Word) (s : State) : Host.Outcome State Fault Refusal := .next ((s.storeA nn).charge (.ldMNnA nn))

/-- `LD A,I` and `LD A,R` (R214, R215), `v` being the register read: Y and X come from MEMPTR or from the result (D35). -/
def State.loadAFrom (s : State) (v : Byte) : State :=
  let f :=
    match s.params.xySource with
    | .memptrHigh => ldAIF v s.cpu.f s.cpu.iff2 (s.cpu.memptr.getLsbD 13) (s.cpu.memptr.getLsbD 11)
    | .result => ldAIF v s.cpu.f s.cpu.iff2 (v.getLsbD 5) (v.getLsbD 3)
  (s.setA v).setF f

/-- `LD A,I` (R214). -/
def execLdAI (s : State) : Host.Outcome State Fault Refusal := .next ((s.loadAFrom s.cpu.i).charge .ldAI)

/-- `LD A,R` (R215). -/
def execLdAR (s : State) : Host.Outcome State Fault Refusal := .next ((s.loadAFrom s.rReg).charge .ldAR)

/-- `LD I,A` (R216). -/
def execLdIA (s : State) : Host.Outcome State Fault Refusal := .next ((s.setI s.cpu.a).charge .ldIA)

/-- `LD R,A` (R217). -/
def execLdRA (s : State) : Host.Outcome State Fault Refusal := .next ((s.setR s.cpu.a).charge .ldRA)

end Sys2Proof.Machine
end

