-- ==== Sys2Proof/Machine/RotShift.lean ====
section
/-! DEFINITION. The rotate and shift group (spec/46_rotate_shift.md R380 to R396). A meaning
starts from the state whose PC is past the instruction and ends with its cost in T-states (spec/00_scope.md R13), taken from
its row of the cost table. -/

namespace Sys2Proof.Machine

/-- `RLCA` (R380). -/
def execRlca (s : State) : Host.Outcome State Fault Refusal :=
  .next ((s.setAF (rotA .rlc s.cpu.a s.cpu.f)).charge .rlca)

/-- `RRCA` (R381). -/
def execRrca (s : State) : Host.Outcome State Fault Refusal :=
  .next ((s.setAF (rotA .rrc s.cpu.a s.cpu.f)).charge .rrca)

/-- `RLA` (R382). -/
def execRla (s : State) : Host.Outcome State Fault Refusal := .next ((s.setAF (rotA .rl s.cpu.a s.cpu.f)).charge .rla)

/-- `RRA` (R383). -/
def execRra (s : State) : Host.Outcome State Fault Refusal := .next ((s.setAF (rotA .rr s.cpu.a s.cpu.f)).charge .rra)

/-- A rotate or shift of a register (R384 to R391, R396). -/
def State.rotReg (s : State) (o : Rot) (r : Reg8) : State :=
  (s.setReg8 r (rot8 o (s.reg8 r) s.cpu.f).r).setF (rot8 o (s.reg8 r) s.cpu.f).f

/-- A rotate or shift of the byte at `a` (R384 to R392, R396). -/
def State.rotMem (s : State) (o : Rot) (a : Word) : State :=
  (s.writeByte a (rot8 o (s.readByte a) s.cpu.f).r).setF (rot8 o (s.readByte a) s.cpu.f).f

/-- A rotate or shift of (XY+d) that a register also receives (R393). -/
def State.rotMemReg (s : State) (x : IdxReg) (o : Rot) (d : Byte) (r : Reg8) : State :=
  ((s.rotMem o (s.ea x d)).setReg8 r (rot8 o (s.readByte (s.ea x d)) s.cpu.f).r).setMemptr (s.ea x d)

/-- `RLC r` (R384). -/
def execRlcR (r : Reg8) (s : State) : Host.Outcome State Fault Refusal := .next ((s.rotReg .rlc r).charge (.rlcR r))

/-- `RLC (HL)` (R384). -/
def execRlcMHl (s : State) : Host.Outcome State Fault Refusal := .next ((s.rotMem .rlc s.hl).charge .rlcMHl)

/-- `RLC (IX+d)` (R392). -/
def execRlcMIxd (d : Byte) (s : State) : Host.Outcome State Fault Refusal :=
  .next (((s.rotMem .rlc (s.ea .ix d)).setMemptr (s.ea .ix d)).charge (.rlcMIxd d))

/-- `RLC (IY+d)` (R392). -/
def execRlcMIyd (d : Byte) (s : State) : Host.Outcome State Fault Refusal :=
  .next (((s.rotMem .rlc (s.ea .iy d)).setMemptr (s.ea .iy d)).charge (.rlcMIyd d))

/-- `RRC r` (R385). -/
def execRrcR (r : Reg8) (s : State) : Host.Outcome State Fault Refusal := .next ((s.rotReg .rrc r).charge (.rrcR r))

/-- `RRC (HL)` (R385). -/
def execRrcMHl (s : State) : Host.Outcome State Fault Refusal := .next ((s.rotMem .rrc s.hl).charge .rrcMHl)

/-- `RRC (IX+d)` (R392). -/
def execRrcMIxd (d : Byte) (s : State) : Host.Outcome State Fault Refusal :=
  .next (((s.rotMem .rrc (s.ea .ix d)).setMemptr (s.ea .ix d)).charge (.rrcMIxd d))

/-- `RRC (IY+d)` (R392). -/
def execRrcMIyd (d : Byte) (s : State) : Host.Outcome State Fault Refusal :=
  .next (((s.rotMem .rrc (s.ea .iy d)).setMemptr (s.ea .iy d)).charge (.rrcMIyd d))

/-- `RL r` (R386). -/
def execRlR (r : Reg8) (s : State) : Host.Outcome State Fault Refusal := .next ((s.rotReg .rl r).charge (.rlR r))

/-- `RL (HL)` (R386). -/
def execRlMHl (s : State) : Host.Outcome State Fault Refusal := .next ((s.rotMem .rl s.hl).charge .rlMHl)

/-- `RL (IX+d)` (R392). -/
def execRlMIxd (d : Byte) (s : State) : Host.Outcome State Fault Refusal :=
  .next (((s.rotMem .rl (s.ea .ix d)).setMemptr (s.ea .ix d)).charge (.rlMIxd d))

/-- `RL (IY+d)` (R392). -/
def execRlMIyd (d : Byte) (s : State) : Host.Outcome State Fault Refusal :=
  .next (((s.rotMem .rl (s.ea .iy d)).setMemptr (s.ea .iy d)).charge (.rlMIyd d))

/-- `RR r` (R387). -/
def execRrR (r : Reg8) (s : State) : Host.Outcome State Fault Refusal := .next ((s.rotReg .rr r).charge (.rrR r))

/-- `RR (HL)` (R387). -/
def execRrMHl (s : State) : Host.Outcome State Fault Refusal := .next ((s.rotMem .rr s.hl).charge .rrMHl)

/-- `RR (IX+d)` (R392). -/
def execRrMIxd (d : Byte) (s : State) : Host.Outcome State Fault Refusal :=
  .next (((s.rotMem .rr (s.ea .ix d)).setMemptr (s.ea .ix d)).charge (.rrMIxd d))

/-- `RR (IY+d)` (R392). -/
def execRrMIyd (d : Byte) (s : State) : Host.Outcome State Fault Refusal :=
  .next (((s.rotMem .rr (s.ea .iy d)).setMemptr (s.ea .iy d)).charge (.rrMIyd d))

/-- `SLA r` (R388). -/
def execSlaR (r : Reg8) (s : State) : Host.Outcome State Fault Refusal := .next ((s.rotReg .sla r).charge (.slaR r))

/-- `SLA (HL)` (R388). -/
def execSlaMHl (s : State) : Host.Outcome State Fault Refusal := .next ((s.rotMem .sla s.hl).charge .slaMHl)

/-- `SLA (IX+d)` (R392). -/
def execSlaMIxd (d : Byte) (s : State) : Host.Outcome State Fault Refusal :=
  .next (((s.rotMem .sla (s.ea .ix d)).setMemptr (s.ea .ix d)).charge (.slaMIxd d))

/-- `SLA (IY+d)` (R392). -/
def execSlaMIyd (d : Byte) (s : State) : Host.Outcome State Fault Refusal :=
  .next (((s.rotMem .sla (s.ea .iy d)).setMemptr (s.ea .iy d)).charge (.slaMIyd d))

/-- `SRA r` (R389). -/
def execSraR (r : Reg8) (s : State) : Host.Outcome State Fault Refusal := .next ((s.rotReg .sra r).charge (.sraR r))

/-- `SRA (HL)` (R389). -/
def execSraMHl (s : State) : Host.Outcome State Fault Refusal := .next ((s.rotMem .sra s.hl).charge .sraMHl)

/-- `SRA (IX+d)` (R392). -/
def execSraMIxd (d : Byte) (s : State) : Host.Outcome State Fault Refusal :=
  .next (((s.rotMem .sra (s.ea .ix d)).setMemptr (s.ea .ix d)).charge (.sraMIxd d))

/-- `SRA (IY+d)` (R392). -/
def execSraMIyd (d : Byte) (s : State) : Host.Outcome State Fault Refusal :=
  .next (((s.rotMem .sra (s.ea .iy d)).setMemptr (s.ea .iy d)).charge (.sraMIyd d))

/-- `SLL r` (R390). -/
def execSllR (r : Reg8) (s : State) : Host.Outcome State Fault Refusal := .next ((s.rotReg .sll r).charge (.sllR r))

/-- `SLL (HL)` (R390). -/
def execSllMHl (s : State) : Host.Outcome State Fault Refusal := .next ((s.rotMem .sll s.hl).charge .sllMHl)

/-- `SLL (IX+d)` (R392). -/
def execSllMIxd (d : Byte) (s : State) : Host.Outcome State Fault Refusal :=
  .next (((s.rotMem .sll (s.ea .ix d)).setMemptr (s.ea .ix d)).charge (.sllMIxd d))

/-- `SLL (IY+d)` (R392). -/
def execSllMIyd (d : Byte) (s : State) : Host.Outcome State Fault Refusal :=
  .next (((s.rotMem .sll (s.ea .iy d)).setMemptr (s.ea .iy d)).charge (.sllMIyd d))

/-- `SRL r` (R391). -/
def execSrlR (r : Reg8) (s : State) : Host.Outcome State Fault Refusal := .next ((s.rotReg .srl r).charge (.srlR r))

/-- `SRL (HL)` (R391). -/
def execSrlMHl (s : State) : Host.Outcome State Fault Refusal := .next ((s.rotMem .srl s.hl).charge .srlMHl)

/-- `SRL (IX+d)` (R392). -/
def execSrlMIxd (d : Byte) (s : State) : Host.Outcome State Fault Refusal :=
  .next (((s.rotMem .srl (s.ea .ix d)).setMemptr (s.ea .ix d)).charge (.srlMIxd d))

/-- `SRL (IY+d)` (R392). -/
def execSrlMIyd (d : Byte) (s : State) : Host.Outcome State Fault Refusal :=
  .next (((s.rotMem .srl (s.ea .iy d)).setMemptr (s.ea .iy d)).charge (.srlMIyd d))

/-- `rot (IX+d),r` (R393). -/
def execRotMIxdR (o : Rot) (d : Byte) (r : Reg8) (s : State) : Host.Outcome State Fault Refusal :=
  .next ((s.rotMemReg .ix o d r).charge (.rotMIxdR o d r))

/-- `rot (IY+d),r` (R393). -/
def execRotMIydR (o : Rot) (d : Byte) (r : Reg8) (s : State) : Host.Outcome State Fault Refusal :=
  .next ((s.rotMemReg .iy o d r).charge (.rotMIydR o d r))

/-- What RLD and RRD leave in A (R394, R395): its high digit, and the digit `v` below it. -/
def State.setDigit (s : State) (v : BitVec 4) : State :=
  let a := s.cpu.a.extractLsb' 4 4 ++ v
  ((s.setA a).setF (digitF a s.cpu.f)).setMemptr (s.hl + 1)

/-- `RLD` (R394): A's low digit enters the byte from below, its high digit goes to A. -/
def execRld (s : State) : Host.Outcome State Fault Refusal :=
  .next
    (((s.writeByte s.hl ((s.readByte s.hl).extractLsb' 0 4 ++ s.cpu.a.extractLsb' 0 4)).setDigit
      ((s.readByte s.hl).extractLsb' 4 4)).charge .rld)

/-- `RRD` (R395): A's low digit enters the byte from above, its low digit goes to A. -/
def execRrd (s : State) : Host.Outcome State Fault Refusal :=
  .next
    (((s.writeByte s.hl (s.cpu.a.extractLsb' 0 4 ++ (s.readByte s.hl).extractLsb' 4 4)).setDigit
      ((s.readByte s.hl).extractLsb' 0 4)).charge .rrd)

end Sys2Proof.Machine
end

