-- ==== Sys2Proof/Machine/Escape.lean ====
section
/-! DEFINITION. The escape from an index prefix into a plain opcode (spec/30_encoding.md R151): the base instruction runs
and charges its cost, and the prefix adds the cost of its own row. -/

namespace Sys2Proof.Machine

/-- The base instruction an index prefix escapes into; any other instruction is refused. -/
def execPlain (i : Instr) (s : State) : Host.Outcome State Fault Refusal :=
  match i with
  | .nop => execNop s
  | .exAfAf => execExAfAf s
  | .djnz e => execDjnz e s
  | .jr e => execJr e s
  | .jrCc cc e => execJrCc cc e s
  | .ldRrNn p nn => execLdRrNn p nn s
  | .ldMBcA => execLdMBcA s
  | .ldMDeA => execLdMDeA s
  | .ldMNnA nn => execLdMNnA nn s
  | .ldAMBc => execLdAMBc s
  | .ldAMDe => execLdAMDe s
  | .ldAMNn nn => execLdAMNn nn s
  | .incRr p => execIncRr p s
  | .decRr p => execDecRr p s
  | .incR r => execIncR r s
  | .decR r => execDecR r s
  | .ldRN r n => execLdRN r n s
  | .rlca => execRlca s
  | .rrca => execRrca s
  | .rla => execRla s
  | .rra => execRra s
  | .daa => execDaa s
  | .cpl => execCpl s
  | .scf => execScf s
  | .ccf => execCcf s
  | .ldRR t r => execLdRR t r s
  | .halt => execHalt s
  | .addAR r => execAddAR r s
  | .addAN n => execAddAN n s
  | .adcAR r => execAdcAR r s
  | .adcAN n => execAdcAN n s
  | .subR r => execSubR r s
  | .subN n => execSubN n s
  | .sbcAR r => execSbcAR r s
  | .sbcAN n => execSbcAN n s
  | .andR r => execAndR r s
  | .andN n => execAndN n s
  | .xorR r => execXorR r s
  | .xorN n => execXorN n s
  | .orR r => execOrR r s
  | .orN n => execOrN n s
  | .cpR r => execCpR r s
  | .cpN n => execCpN n s
  | .retCc cc => execRetCc cc s
  | .popQq q => execPopQq q s
  | .ret => execRet s
  | .exx => execExx s
  | .jpCcNn cc nn => execJpCcNn cc nn s
  | .jpNn nn => execJpNn nn s
  | .outMNA n => execOutMNA n s
  | .inAMN n => execInAMN n s
  | .exDeHl => execExDeHl s
  | .di => execDi s
  | .ei => execEi s
  | .callCcNn cc nn => execCallCcNn cc nn s
  | .pushQq q => execPushQq q s
  | .callNn nn => execCallNn nn s
  | .rstP y => execRstP y s
  | .addHlRr _ | .ldMNnHl _ | .ldHlMNn _ | .incMHl | .decMHl | .ldMHlN _ | .ldRMHl _ | .ldMHlR _ | .addAMHl
  | .adcAMHl | .subMHl | .sbcAMHl | .andMHl | .xorMHl | .orMHl | .cpMHl | .jpMHl | .ldSpHl | .exMSpHl | .rlcR _
  | .rlcMHl | .rrcR _ | .rrcMHl | .rlR _ | .rlMHl | .rrR _ | .rrMHl | .slaR _ | .slaMHl | .sraR _ | .sraMHl
  | .sllR _ | .sllMHl | .srlR _ | .srlMHl | .bitBR _ _ | .bitBMHl _ | .resBR _ _ | .resBMHl _ | .setBR _ _
  | .setBMHl _ | .inRMC _ | .inFMC | .outMCR _ | .outMC0 | .sbcHlRr _ | .adcHlRr _ | .ldMNnRr _ _ | .ldRrMNn _ _
  | .neg _ | .reti | .retn _ | .im0 _ | .im1 _ | .im2 _ | .ldIA | .ldRA | .ldAI | .ldAR | .rrd | .rld | .ldi | .cpi
  | .ini | .outi | .ldd | .cpd | .ind | .outd | .ldir | .cpir | .inir | .otir | .lddr | .cpdr | .indr | .otdr
  | .nopStar _ | .ldIxNn _ | .ldMNnIx _ | .ldIxMNn _ | .addIxRr _ | .incIx | .decIx | .incIxh _ | .decIxh _
  | .ldIxhN _ _ | .incMIxd _ | .decMIxd _ | .ldMIxdN _ _ | .ldRIxh _ _ | .ldRMIxd _ _ | .ldMIxdR _ _ | .popIx
  | .exMSpIx | .pushIx | .jpMIx | .ldSpIx | .addAMIxd _ | .adcAMIxd _ | .subMIxd _ | .sbcAMIxd _ | .andMIxd _
  | .xorMIxd _ | .orMIxd _ | .cpMIxd _ | .ddRedundant _ | .ddEscape _ | .rlcMIxd _ | .rrcMIxd _ | .rlMIxd _
  | .rrMIxd _ | .slaMIxd _ | .sraMIxd _ | .sllMIxd _ | .srlMIxd _ | .rotMIxdR _ _ _ | .bitBMIxd _ _ _
  | .resBMIxd _ _ | .setBMIxd _ _ | .resBMIxdR _ _ _ | .setBMIxdR _ _ _ | .ldIyNn _ | .ldMNnIy _ | .ldIyMNn _
  | .addIyRr _ | .incIy | .decIy | .incIyh _ | .decIyh _ | .ldIyhN _ _ | .incMIyd _ | .decMIyd _ | .ldMIydN _ _
  | .ldRIyh _ _ | .ldRMIyd _ _ | .ldMIydR _ _ | .popIy | .exMSpIy | .pushIy | .jpMIy | .ldSpIy | .addAMIyd _
  | .adcAMIyd _ | .subMIyd _ | .sbcAMIyd _ | .andMIyd _ | .xorMIyd _ | .orMIyd _ | .cpMIyd _ | .fdRedundant _
  | .fdEscape _ | .rlcMIyd _ | .rrcMIyd _ | .rlMIyd _ | .rrMIyd _ | .slaMIyd _ | .sraMIyd _ | .sllMIyd _
  | .srlMIyd _ | .rotMIydR _ _ _ | .bitBMIyd _ _ _ | .resBMIyd _ _ | .setBMIyd _ _ | .resBMIydR _ _ _
  | .setBMIydR _ _ _ | .addAXh _ _ | .adcAXh _ _ | .subXh _ _ | .sbcAXh _ _ | .andXh _ _ | .xorXh _ _ | .orXh _ _
  | .cpXh _ _ => .refused .illFormedEscape

/-- An escape (R151): what the base instruction `i` does at its cost, and then the cost of the escape's own row, `row`. -/
def escapeInto (row i : Instr) (s : State) : Host.Outcome State Fault Refusal :=
  if i.escapable then
    match execPlain i s with
    | .next t => .next (t.charge row)
    | .fault r => .fault r
    | .refused r => .refused r
  else .refused .illFormedEscape

/-- A DD escape (R151). -/
def execDdEscape (i : Instr) (s : State) : Host.Outcome State Fault Refusal := escapeInto (.ddEscape i) i s

/-- An FD escape (R151). -/
def execFdEscape (i : Instr) (s : State) : Host.Outcome State Fault Refusal := escapeInto (.fdEscape i) i s

end Sys2Proof.Machine
end

