-- ==== Sys2Proof/Machine/Dispatch.lean ====
section
/-! DEFINITION. One arm per constructor of `Instr`, each one direct call of the instruction's meaning, in the order of
spec/opcode_table.json. -/

namespace Sys2Proof.Machine

def exec (i : Instr) (s : State) : Host.Outcome State Fault Refusal :=
  match i with
  | .nop => Sys2Proof.Machine.execNop s
  | .exAfAf => Sys2Proof.Machine.execExAfAf s
  | .djnz e => Sys2Proof.Machine.execDjnz e s
  | .jr e => Sys2Proof.Machine.execJr e s
  | .jrCc cc e => Sys2Proof.Machine.execJrCc cc e s
  | .ldRrNn p nn => Sys2Proof.Machine.execLdRrNn p nn s
  | .addHlRr p => Sys2Proof.Machine.execAddHlRr p s
  | .ldMBcA => Sys2Proof.Machine.execLdMBcA s
  | .ldMDeA => Sys2Proof.Machine.execLdMDeA s
  | .ldMNnHl nn => Sys2Proof.Machine.execLdMNnHl nn s
  | .ldMNnA nn => Sys2Proof.Machine.execLdMNnA nn s
  | .ldAMBc => Sys2Proof.Machine.execLdAMBc s
  | .ldAMDe => Sys2Proof.Machine.execLdAMDe s
  | .ldHlMNn nn => Sys2Proof.Machine.execLdHlMNn nn s
  | .ldAMNn nn => Sys2Proof.Machine.execLdAMNn nn s
  | .incRr p => Sys2Proof.Machine.execIncRr p s
  | .decRr p => Sys2Proof.Machine.execDecRr p s
  | .incR r => Sys2Proof.Machine.execIncR r s
  | .incMHl => Sys2Proof.Machine.execIncMHl s
  | .decR r => Sys2Proof.Machine.execDecR r s
  | .decMHl => Sys2Proof.Machine.execDecMHl s
  | .ldRN r n => Sys2Proof.Machine.execLdRN r n s
  | .ldMHlN n => Sys2Proof.Machine.execLdMHlN n s
  | .rlca => Sys2Proof.Machine.execRlca s
  | .rrca => Sys2Proof.Machine.execRrca s
  | .rla => Sys2Proof.Machine.execRla s
  | .rra => Sys2Proof.Machine.execRra s
  | .daa => Sys2Proof.Machine.execDaa s
  | .cpl => Sys2Proof.Machine.execCpl s
  | .scf => Sys2Proof.Machine.execScf s
  | .ccf => Sys2Proof.Machine.execCcf s
  | .ldRR t r => Sys2Proof.Machine.execLdRR t r s
  | .ldRMHl r => Sys2Proof.Machine.execLdRMHl r s
  | .ldMHlR r => Sys2Proof.Machine.execLdMHlR r s
  | .halt => Sys2Proof.Machine.execHalt s
  | .addAR r => Sys2Proof.Machine.execAddAR r s
  | .addAMHl => Sys2Proof.Machine.execAddAMHl s
  | .addAN n => Sys2Proof.Machine.execAddAN n s
  | .adcAR r => Sys2Proof.Machine.execAdcAR r s
  | .adcAMHl => Sys2Proof.Machine.execAdcAMHl s
  | .adcAN n => Sys2Proof.Machine.execAdcAN n s
  | .subR r => Sys2Proof.Machine.execSubR r s
  | .subMHl => Sys2Proof.Machine.execSubMHl s
  | .subN n => Sys2Proof.Machine.execSubN n s
  | .sbcAR r => Sys2Proof.Machine.execSbcAR r s
  | .sbcAMHl => Sys2Proof.Machine.execSbcAMHl s
  | .sbcAN n => Sys2Proof.Machine.execSbcAN n s
  | .andR r => Sys2Proof.Machine.execAndR r s
  | .andMHl => Sys2Proof.Machine.execAndMHl s
  | .andN n => Sys2Proof.Machine.execAndN n s
  | .xorR r => Sys2Proof.Machine.execXorR r s
  | .xorMHl => Sys2Proof.Machine.execXorMHl s
  | .xorN n => Sys2Proof.Machine.execXorN n s
  | .orR r => Sys2Proof.Machine.execOrR r s
  | .orMHl => Sys2Proof.Machine.execOrMHl s
  | .orN n => Sys2Proof.Machine.execOrN n s
  | .cpR r => Sys2Proof.Machine.execCpR r s
  | .cpMHl => Sys2Proof.Machine.execCpMHl s
  | .cpN n => Sys2Proof.Machine.execCpN n s
  | .retCc cc => Sys2Proof.Machine.execRetCc cc s
  | .popQq q => Sys2Proof.Machine.execPopQq q s
  | .ret => Sys2Proof.Machine.execRet s
  | .exx => Sys2Proof.Machine.execExx s
  | .jpMHl => Sys2Proof.Machine.execJpMHl s
  | .ldSpHl => Sys2Proof.Machine.execLdSpHl s
  | .jpCcNn cc nn => Sys2Proof.Machine.execJpCcNn cc nn s
  | .jpNn nn => Sys2Proof.Machine.execJpNn nn s
  | .outMNA n => Sys2Proof.Machine.execOutMNA n s
  | .inAMN n => Sys2Proof.Machine.execInAMN n s
  | .exMSpHl => Sys2Proof.Machine.execExMSpHl s
  | .exDeHl => Sys2Proof.Machine.execExDeHl s
  | .di => Sys2Proof.Machine.execDi s
  | .ei => Sys2Proof.Machine.execEi s
  | .callCcNn cc nn => Sys2Proof.Machine.execCallCcNn cc nn s
  | .pushQq q => Sys2Proof.Machine.execPushQq q s
  | .callNn nn => Sys2Proof.Machine.execCallNn nn s
  | .rstP y => Sys2Proof.Machine.execRstP y s
  | .rlcR r => Sys2Proof.Machine.execRlcR r s
  | .rlcMHl => Sys2Proof.Machine.execRlcMHl s
  | .rrcR r => Sys2Proof.Machine.execRrcR r s
  | .rrcMHl => Sys2Proof.Machine.execRrcMHl s
  | .rlR r => Sys2Proof.Machine.execRlR r s
  | .rlMHl => Sys2Proof.Machine.execRlMHl s
  | .rrR r => Sys2Proof.Machine.execRrR r s
  | .rrMHl => Sys2Proof.Machine.execRrMHl s
  | .slaR r => Sys2Proof.Machine.execSlaR r s
  | .slaMHl => Sys2Proof.Machine.execSlaMHl s
  | .sraR r => Sys2Proof.Machine.execSraR r s
  | .sraMHl => Sys2Proof.Machine.execSraMHl s
  | .sllR r => Sys2Proof.Machine.execSllR r s
  | .sllMHl => Sys2Proof.Machine.execSllMHl s
  | .srlR r => Sys2Proof.Machine.execSrlR r s
  | .srlMHl => Sys2Proof.Machine.execSrlMHl s
  | .bitBR b r => Sys2Proof.Machine.execBitBR b r s
  | .bitBMHl b => Sys2Proof.Machine.execBitBMHl b s
  | .resBR b r => Sys2Proof.Machine.execResBR b r s
  | .resBMHl b => Sys2Proof.Machine.execResBMHl b s
  | .setBR b r => Sys2Proof.Machine.execSetBR b r s
  | .setBMHl b => Sys2Proof.Machine.execSetBMHl b s
  | .inRMC r => Sys2Proof.Machine.execInRMC r s
  | .inFMC => Sys2Proof.Machine.execInFMC s
  | .outMCR r => Sys2Proof.Machine.execOutMCR r s
  | .outMC0 => Sys2Proof.Machine.execOutMC0 s
  | .sbcHlRr p => Sys2Proof.Machine.execSbcHlRr p s
  | .adcHlRr p => Sys2Proof.Machine.execAdcHlRr p s
  | .ldMNnRr p nn => Sys2Proof.Machine.execLdMNnRr p nn s
  | .ldRrMNn p nn => Sys2Proof.Machine.execLdRrMNn p nn s
  | .neg y => Sys2Proof.Machine.execNeg y s
  | .reti => Sys2Proof.Machine.execReti s
  | .retn y => Sys2Proof.Machine.execRetn y s
  | .im0 y => Sys2Proof.Machine.execIm0 y s
  | .im1 y => Sys2Proof.Machine.execIm1 y s
  | .im2 y => Sys2Proof.Machine.execIm2 y s
  | .ldIA => Sys2Proof.Machine.execLdIA s
  | .ldRA => Sys2Proof.Machine.execLdRA s
  | .ldAI => Sys2Proof.Machine.execLdAI s
  | .ldAR => Sys2Proof.Machine.execLdAR s
  | .rrd => Sys2Proof.Machine.execRrd s
  | .rld => Sys2Proof.Machine.execRld s
  | .ldi => Sys2Proof.Machine.execLdi s
  | .cpi => Sys2Proof.Machine.execCpi s
  | .ini => Sys2Proof.Machine.execIni s
  | .outi => Sys2Proof.Machine.execOuti s
  | .ldd => Sys2Proof.Machine.execLdd s
  | .cpd => Sys2Proof.Machine.execCpd s
  | .ind => Sys2Proof.Machine.execInd s
  | .outd => Sys2Proof.Machine.execOutd s
  | .ldir => Sys2Proof.Machine.execLdir s
  | .cpir => Sys2Proof.Machine.execCpir s
  | .inir => Sys2Proof.Machine.execInir s
  | .otir => Sys2Proof.Machine.execOtir s
  | .lddr => Sys2Proof.Machine.execLddr s
  | .cpdr => Sys2Proof.Machine.execCpdr s
  | .indr => Sys2Proof.Machine.execIndr s
  | .otdr => Sys2Proof.Machine.execOtdr s
  | .nopStar op => Sys2Proof.Machine.execNopStar op s
  | .ldIxNn nn => Sys2Proof.Machine.execLdIxNn nn s
  | .ldMNnIx nn => Sys2Proof.Machine.execLdMNnIx nn s
  | .ldIxMNn nn => Sys2Proof.Machine.execLdIxMNn nn s
  | .addIxRr p => Sys2Proof.Machine.execAddIxRr p s
  | .incIx => Sys2Proof.Machine.execIncIx s
  | .decIx => Sys2Proof.Machine.execDecIx s
  | .incIxh h => Sys2Proof.Machine.execIncIxh h s
  | .decIxh h => Sys2Proof.Machine.execDecIxh h s
  | .ldIxhN h n => Sys2Proof.Machine.execLdIxhN h n s
  | .incMIxd d => Sys2Proof.Machine.execIncMIxd d s
  | .decMIxd d => Sys2Proof.Machine.execDecMIxd d s
  | .ldMIxdN d n => Sys2Proof.Machine.execLdMIxdN d n s
  | .ldRIxh t r => Sys2Proof.Machine.execLdRIxh t r s
  | .ldRMIxd r d => Sys2Proof.Machine.execLdRMIxd r d s
  | .ldMIxdR d r => Sys2Proof.Machine.execLdMIxdR d r s
  | .popIx => Sys2Proof.Machine.execPopIx s
  | .exMSpIx => Sys2Proof.Machine.execExMSpIx s
  | .pushIx => Sys2Proof.Machine.execPushIx s
  | .jpMIx => Sys2Proof.Machine.execJpMIx s
  | .ldSpIx => Sys2Proof.Machine.execLdSpIx s
  | .addAMIxd d => Sys2Proof.Machine.execAddAMIxd d s
  | .adcAMIxd d => Sys2Proof.Machine.execAdcAMIxd d s
  | .subMIxd d => Sys2Proof.Machine.execSubMIxd d s
  | .sbcAMIxd d => Sys2Proof.Machine.execSbcAMIxd d s
  | .andMIxd d => Sys2Proof.Machine.execAndMIxd d s
  | .xorMIxd d => Sys2Proof.Machine.execXorMIxd d s
  | .orMIxd d => Sys2Proof.Machine.execOrMIxd d s
  | .cpMIxd d => Sys2Proof.Machine.execCpMIxd d s
  | .ddRedundant f => Sys2Proof.Machine.execDdRedundant f s
  | .ddEscape inner => Sys2Proof.Machine.execDdEscape inner s
  | .rlcMIxd d => Sys2Proof.Machine.execRlcMIxd d s
  | .rrcMIxd d => Sys2Proof.Machine.execRrcMIxd d s
  | .rlMIxd d => Sys2Proof.Machine.execRlMIxd d s
  | .rrMIxd d => Sys2Proof.Machine.execRrMIxd d s
  | .slaMIxd d => Sys2Proof.Machine.execSlaMIxd d s
  | .sraMIxd d => Sys2Proof.Machine.execSraMIxd d s
  | .sllMIxd d => Sys2Proof.Machine.execSllMIxd d s
  | .srlMIxd d => Sys2Proof.Machine.execSrlMIxd d s
  | .rotMIxdR o d r => Sys2Proof.Machine.execRotMIxdR o d r s
  | .bitBMIxd b d z => Sys2Proof.Machine.execBitBMIxd b d z s
  | .resBMIxd b d => Sys2Proof.Machine.execResBMIxd b d s
  | .setBMIxd b d => Sys2Proof.Machine.execSetBMIxd b d s
  | .resBMIxdR b d r => Sys2Proof.Machine.execResBMIxdR b d r s
  | .setBMIxdR b d r => Sys2Proof.Machine.execSetBMIxdR b d r s
  | .ldIyNn nn => Sys2Proof.Machine.execLdIyNn nn s
  | .ldMNnIy nn => Sys2Proof.Machine.execLdMNnIy nn s
  | .ldIyMNn nn => Sys2Proof.Machine.execLdIyMNn nn s
  | .addIyRr p => Sys2Proof.Machine.execAddIyRr p s
  | .incIy => Sys2Proof.Machine.execIncIy s
  | .decIy => Sys2Proof.Machine.execDecIy s
  | .incIyh h => Sys2Proof.Machine.execIncIyh h s
  | .decIyh h => Sys2Proof.Machine.execDecIyh h s
  | .ldIyhN h n => Sys2Proof.Machine.execLdIyhN h n s
  | .incMIyd d => Sys2Proof.Machine.execIncMIyd d s
  | .decMIyd d => Sys2Proof.Machine.execDecMIyd d s
  | .ldMIydN d n => Sys2Proof.Machine.execLdMIydN d n s
  | .ldRIyh t r => Sys2Proof.Machine.execLdRIyh t r s
  | .ldRMIyd r d => Sys2Proof.Machine.execLdRMIyd r d s
  | .ldMIydR d r => Sys2Proof.Machine.execLdMIydR d r s
  | .popIy => Sys2Proof.Machine.execPopIy s
  | .exMSpIy => Sys2Proof.Machine.execExMSpIy s
  | .pushIy => Sys2Proof.Machine.execPushIy s
  | .jpMIy => Sys2Proof.Machine.execJpMIy s
  | .ldSpIy => Sys2Proof.Machine.execLdSpIy s
  | .addAMIyd d => Sys2Proof.Machine.execAddAMIyd d s
  | .adcAMIyd d => Sys2Proof.Machine.execAdcAMIyd d s
  | .subMIyd d => Sys2Proof.Machine.execSubMIyd d s
  | .sbcAMIyd d => Sys2Proof.Machine.execSbcAMIyd d s
  | .andMIyd d => Sys2Proof.Machine.execAndMIyd d s
  | .xorMIyd d => Sys2Proof.Machine.execXorMIyd d s
  | .orMIyd d => Sys2Proof.Machine.execOrMIyd d s
  | .cpMIyd d => Sys2Proof.Machine.execCpMIyd d s
  | .fdRedundant f => Sys2Proof.Machine.execFdRedundant f s
  | .fdEscape inner => Sys2Proof.Machine.execFdEscape inner s
  | .rlcMIyd d => Sys2Proof.Machine.execRlcMIyd d s
  | .rrcMIyd d => Sys2Proof.Machine.execRrcMIyd d s
  | .rlMIyd d => Sys2Proof.Machine.execRlMIyd d s
  | .rrMIyd d => Sys2Proof.Machine.execRrMIyd d s
  | .slaMIyd d => Sys2Proof.Machine.execSlaMIyd d s
  | .sraMIyd d => Sys2Proof.Machine.execSraMIyd d s
  | .sllMIyd d => Sys2Proof.Machine.execSllMIyd d s
  | .srlMIyd d => Sys2Proof.Machine.execSrlMIyd d s
  | .rotMIydR o d r => Sys2Proof.Machine.execRotMIydR o d r s
  | .bitBMIyd b d z => Sys2Proof.Machine.execBitBMIyd b d z s
  | .resBMIyd b d => Sys2Proof.Machine.execResBMIyd b d s
  | .setBMIyd b d => Sys2Proof.Machine.execSetBMIyd b d s
  | .resBMIydR b d r => Sys2Proof.Machine.execResBMIydR b d r s
  | .setBMIydR b d r => Sys2Proof.Machine.execSetBMIydR b d r s
  | .addAXh x h => Sys2Proof.Machine.execAddAXh x h s
  | .adcAXh x h => Sys2Proof.Machine.execAdcAXh x h s
  | .subXh x h => Sys2Proof.Machine.execSubXh x h s
  | .sbcAXh x h => Sys2Proof.Machine.execSbcAXh x h s
  | .andXh x h => Sys2Proof.Machine.execAndXh x h s
  | .xorXh x h => Sys2Proof.Machine.execXorXh x h s
  | .orXh x h => Sys2Proof.Machine.execOrXh x h s
  | .cpXh x h => Sys2Proof.Machine.execCpXh x h s

end Sys2Proof.Machine
end

