-- ==== Sys2Proof/Machine/Frame.lean ====
section
/-! DEFINITION. The frame boundary (spec/60_exceptions.md R530, R570) and what the host does there (R584, R585, R600): the
interrupt check, the devices' catch-up and rollover, the rebase of the clock, then the queued host actions. -/

namespace Sys2Proof.Machine

/-! ## Reset and loading -/

/-- The CPU after a later reset (R600): the registers R51 leaves unspecified are free values. -/
def resetCpu (draw : Nat) : Cpu :=
  let u (k : Nat) : Word := Config.unspecified (draw + k)
  { Cpu.reset with
    b := (u 0).hi, c := (u 0).lo, d := (u 1).hi, e := (u 1).lo, h := (u 2).hi, l := (u 2).lo
    a' := (u 3).hi, f' := (u 3).lo, b' := (u 4).hi, c' := (u 4).lo, d' := (u 5).hi, e' := (u 5).lo
    h' := (u 6).hi, l' := (u 6).lo, ix := u 7, iy := u 8, memptr := u 9 }

/-- The tape deck after a machine reset (R601): stopped, cursor and image kept, latch 0. -/
def Tape.machineReset (t : Tape) : Tape := { t.halt with latch := false, baseline := 0 }

/-- The host's `reset()` (R600, R601): RAM, ROM, media, head positions, the tape image and the host's key input stay. R601 gives
no value for the AY's tone outputs and its envelope counter at a later reset: they are cleared. DESIGN CHOICE, unsafe:
assumption 40. -/
def State.hostReset (s : State) : State :=
  { s with
    cpu := resetCpu s.draws
    draws := s.draws + 10
    rom := resetRom s.params.variant
    ram3 := 0
    latch := 0
    ula := { Ula.reset with keys := s.ula.keys }
    ay := Ay.reset s.params.ayTables.lfsrSeed
    fdc := s.fdc.machineReset
    tape := s.tape.machineReset }

/-- A ROM image is loaded (R111): exactly 16384 bytes, or the load fails and nothing changes. -/
def State.loadRom (s : State) (k : RomKind) (image : List Byte) : Except HostError State :=
  if image.length = pageSize then
    let lo := physical (romPage k) 0
    .ok
      { s with
        mem := (s.mem.filter fun c => decide (c.1 < lo)) ++ Memory.ofBytes lo image ++ Memory.above s.mem (lo + pageSize) }
  else .error .ioError

/-- construct-with-ROM-paths (R584, R602): the machine in the reset state with its ROM images loaded. -/
def State.construct (p : Params) (images : List (RomKind × List Byte)) : Except HostError State :=
  images.foldlM (fun s image => s.loadRom image.1 image.2) (State.resetWith p)

/-- The physical addresses of RAM end here; ROM pages follow. -/
def ramEnd : Nat := physical (romPage .rom0) 0

/-! ## Snapshots (R585) -/

/-- The RAM pages the machine has, in rising order (R84): the pages of slots 1 and 2, and those slot 3 may hold. -/
def State.ramPages (s : State) : List Nat :=
  (List.range 8).filter fun n =>
    n == ramPage 5 || n == ramPage 2 ||
      match s.params.variant with
      | .m48 => n == ramPage 0
      | .m128 => decide (n < s.params.ramBanks)

/-- The contents of a page. -/
def State.pageBytes (s : State) (n : Nat) : List Byte :=
  (List.range pageSize).map fun off => Memory.read s.mem (physical n off)

/-- The snapshot of a machine. The format carries neither `halted`, `int_block` and MEMPTR nor the clock: a snapshot holds 0
for them. -/
def State.takeSnapshot (s : State) : Snapshot where
  variant := s.params.variant
  cpu := { s.cpu with halted := false, intBlock := false, memptr := 0, clk := 0 }
  latch := s.latch
  ayRegs := s.ay.regs
  pages := s.ramPages.map fun n => (n, s.pageBytes n)

/-- The bytes a snapshot has for a page. -/
def Snapshot.page (snap : Snapshot) (n : Nat) : List Byte := (snap.pages.lookup n).getD []

/-- The snapshot's mode and page layout are the machine's: the same variant, and each of its RAM pages once and whole. -/
def State.snapshotFits (s : State) (snap : Snapshot) : Bool :=
  snap.variant == s.params.variant && snap.pages.length == s.ramPages.length &&
    s.ramPages.all fun n => (snap.page n).length == pageSize

/-- The RAM a snapshot's pages make. -/
def Snapshot.ram (snap : Snapshot) (pages : List Nat) : Memory :=
  pages.flatMap fun n => Memory.ofBytes (physical n 0) (snap.page n)

/-- The machine with the registers, AY registers and RAM of a snapshot (D39): `halted` and `int_block` become 0, MEMPTR is a
free value, the clock stays. -/
def State.withSnapshot (s : State) (snap : Snapshot) : State :=
  { s with
    cpu := { snap.cpu with halted := false, intBlock := false, memptr := Config.unspecified s.draws, clk := s.cpu.clk }
    draws := s.draws + 1
    ay := { s.ay with regs := snap.ayRegs }
    mem := snap.ram s.ramPages ++ Memory.above s.mem ramEnd }

/-- A snapshot is loaded, the latch with the mapping it selects; one whose mode or page layout is not the machine's fails to
load and changes nothing (assumption 27). -/
def State.loadSnapshot (s : State) (snap : Snapshot) : Except HostError State :=
  if s.snapshotFits snap then
    match s.params.variant with
    | .m48 => .ok ((s.withSnapshot snap).setRomBank .rom1)
    | .m128 =>
      let s' : State := { s.withSnapshot snap with latch := snap.latch }
      .ok ((s'.selectRamBank (snap.latch.extractLsb' 0 3)).setRomBank s'.latchRom)
  else .error .formatError

/-! ## The host's calls (R584) -/

/-- The call succeeded: the bool that a load or save call answers. -/
def HostAnswer.ok (a : HostAnswer) : Bool :=
  match a with
  | .done => true
  | .loaded => true
  | .saved _ => true
  | .savedSnapshot _ => true
  | .failed _ => false

/-- A load call's answer and what it leaves: the loaded state, or the reason and the state unchanged (R521). -/
def State.afterLoad (s : State) (r : Except HostError State) : HostAnswer × State :=
  match r with
  | .ok t => (.loaded, t)
  | .error e => (.failed e, s)

/-- A save call's answer. -/
def HostAnswer.ofSave (r : Except HostError (List Byte)) : HostAnswer :=
  match r with
  | .ok bytes => .saved bytes
  | .error e => .failed e

/-- What the host saves from the tape deck: its image. No image is the empty one. -/
def Tape.save (t : Tape) : Except HostError (List Byte) := if t.image.isEmpty then .error .mediaAbsent else .ok t.image

/-- One host call between frames (R584, R569, R561): what it answers and the state it leaves. -/
def State.hostAction (s : State) (a : HostAction) : HostAnswer × State :=
  match a with
  | .nmi => (.done, s.nmi)
  | .reset => (.done, s.hostReset)
  | .tapePlay => (.done, { s with tape := s.tape.play })
  | .tapeStop => (.done, { s with tape := s.tape.halt })
  | .tapeRewind => (.done, { s with tape := s.tape.rewind })
  | .tapeLoad image => (.loaded, { s with tape := { s.tape.rewind with image := image } })
  | .tapeSave => (HostAnswer.ofSave s.tape.save, s)
  | .diskLoad drive format bytes protect =>
    s.afterLoad ((s.fdc.load drive format bytes protect).map fun f => { s with fdc := f })
  | .diskSave drive => (HostAnswer.ofSave (s.fdc.save drive), s)
  | .diskEject drive => (.done, { s with fdc := s.fdc.eject drive })
  | .keys rows => (.done, { s with ula := { s.ula with keys := rows } })
  | .snapshotLoad snap => s.afterLoad (s.loadSnapshot snap)
  | .snapshotSave => (.savedSnapshot s.takeSnapshot, s)

/-- A list of host calls in call order (R541): what they answer and the state they leave. -/
def State.hostActions (s : State) : List HostAction → List HostAnswer × State
  | [] => ([], s)
  | a :: as =>
    let rest := (s.hostAction a).2.hostActions as
    ((s.hostAction a).1 :: rest.1, rest.2)

/-- The queued host calls of a frame boundary are done and their answers recorded. -/
def State.runPending (s : State) : State :=
  let out := s.hostActions s.pending
  { out.2 with pending := [], answers := out.1 }

/-! ## The frame boundary -/

/-- The frame is over (R530, R531): the budget is reached, and the interrupt shadow of EI or of a redundant prefix does not
hold the check back. -/
def State.frameDue (s : State) : Bool :=
  decide ((s.params.frameBudget : Int) ≤ s.cpu.clk) && !(s.params.eiShadow && s.cpu.intBlock)

/-- The frame's one interrupt check (R530, R531): an interrupt not enabled here is lost. -/
def State.interruptCheck (s : State) : Host.Outcome State Fault Refusal := if s.cpu.iff1 then s.acceptInt else .next s

/-- Every device catches up to the clock and is told the frame is over (R530, R570). -/
def State.devicesFrameEnd (s : State) : State :=
  let s' := (((s.syncVideo s.cpu.clk).syncAy s.cpu.clk).syncFdc s.cpu.clk).syncTape s.cpu.clk
  { s' with
    ula := s'.ula.frameEnd s.params.frameBudget
    ay := s'.ay.frameEnd s.params.frameBudget
    fdc := s'.fdc.frameEnd s.params.frameBudget
    tape := s'.tape.frameEnd s.params.frameBudget }

/-- `clk <- clk − FRAME_BUDGET` (R530, R555, D12). -/
def State.rebase (s : State) : State :=
  { s with cpu := { s.cpu with clk := s.cpu.clk - (s.params.frameBudget : Int) } }

/-- The frame boundary: interrupt check, devices, rebase, host actions (R530, R584). -/
def State.frameEnd (s : State) : Host.Outcome State Fault Refusal :=
  match s.interruptCheck with
  | .next t => .next t.devicesFrameEnd.rebase.runPending
  | .fault r => .fault r
  | .refused r => .refused r

end Sys2Proof.Machine
end

