-- ==== Sys2Proof/Machine/Cycle.lean ====
section
/-! DEFINITION. The instruction cycle (spec/30_encoding.md R160, R163): fetching an instruction's bytes, running the
instruction they decode to with the refresh update around it, and placing bytes where the next fetch reads. -/

namespace Sys2Proof.Machine

/-- The bytes after which the opcode byte is fetched too, through the execute mapping (R88, R160). -/
def isPrefixByte (b : Byte) : Bool := b == 0xCB || b == 0xED || b == 0xDD || b == 0xFD

/-- The mapping once the opcode fetches of the instruction at PC are made, `b0` being its first byte (R88, R160). -/
def State.fetchedMap (s : State) (b0 : Byte) : State :=
  if isPrefixByte b0 then (s.fetchMap s.cpu.pc).fetchMap (s.cpu.pc + 1) else s.fetchMap s.cpu.pc

/-- The four bytes from PC on as the instruction fetch reads them, and the state the fetch leaves (R160). The first byte,
and the byte after a prefix, are opcode fetches; the others are argument reads, which have no effect, so reading more of
them than the instruction has changes nothing. -/
def State.fetch (s : State) : List Byte × State :=
  let pc := s.cpu.pc
  let b0 := (s.fetchOp pc).1
  let s1 := (s.fetchOp pc).2
  let b1 := if isPrefixByte b0 then (s1.fetchOp (pc + 1)).1 else s1.fetchArg (pc + 1)
  let s2 := s.fetchedMap b0
  ([b0, b1, s2.fetchArg (pc + 2), s2.fetchArg (pc + 3)], s2)

/-- The state an instruction's effect starts from (R160, R163): PC past the instruction, `int_block` clear, and the refresh
counter advanced by the opcode fetches in the mode that counts them. -/
def State.begin (s : State) (i : Instr) : State :=
  let s1 := (s.setPc (s.cpu.pc + BitVec.ofNat 16 i.length)).setIntBlock false
  match s.params.refreshMode with
  | .perStepAfter => s1
  | .perM1 => s1.refresh i.m1Count

/-- The refresh update at the end of a step (R163). -/
def State.finish (s : State) : State :=
  match s.params.refreshMode with
  | .perStepAfter => s.refresh 1
  | .perM1 => s

/-- One instruction run in the state its fetch leaves (R160). -/
def runInstr (i : Instr) (s : State) : Host.Outcome State Fault Refusal :=
  match exec i (s.begin i) with
  | .next t => .next t.finish
  | .fault r => .fault r
  | .refused r => .refused r

/-- `step()` of R160: fetch, decode, run. -/
def State.instrStep (s : State) : Host.Outcome State Fault Refusal :=
  match decode s.fetch.1 with
  | .ok i => runInstr i s.fetch.2
  | .error _ => .refused .undecodable

/-- The four bytes placed where the next instruction fetch reads them; the mapping stays as it is. -/
def State.placeInstr (s : State) (b0 b1 b2 b3 : Byte) : State :=
  let pc := s.cpu.pc
  let s2 := s.fetchedMap b0
  { s with
    mem :=
      Memory.write
        (Memory.write
          (Memory.write (Memory.write s.mem ((s.fetchMap pc).readLoc pc) b0) (s2.readLoc (pc + 1)) b1)
          (s2.readLoc (pc + 2)) b2)
        (s2.readLoc (pc + 3)) b3 }

/-- The state with a frame boundary that would come first moved away: the clock one T-state before it. -/
def State.beforeFrameEnd (s : State) : State :=
  if s.frameDue then { s with cpu := { s.cpu with clk := (s.params.frameBudget : Int) - 1 } } else s

/-- The state whose next step fetches and runs exactly the instruction of a table word. -/
def State.placeWord (s : State) (nbits w : Nat) : State :=
  match tableBytes nbits w with
  | [b0, b1, b2, b3] => s.beforeFrameEnd.placeInstr b0 b1 b2 b3
  | _ => s

end Sys2Proof.Machine
end

