-- ==== Sys2Proof/Machine/Step.lean ====
section
/-! DEFINITION. One step of the machine: the frame loop of spec/60_exceptions.md R530, one iteration at a time. -/

namespace Sys2Proof.Machine

/-- One step: the frame boundary when it is due, else one instruction (R160, R530). -/
def step (s : State) : Host.Outcome State Fault Refusal := if s.frameDue then s.frameEnd else s.instrStep

/-- The state with the instruction of a spec/opcode_table.json word placed where `step` fetches next. -/
def State.withFetchWord (s : State) (nbits w : Nat) : State := s.placeWord nbits w

end Sys2Proof.Machine
end

