-- ==== Sys2Proof/Safety.lean ====
section
/-! DEFINITION. What counts as a safe state, in the terms the statements use: the canonical form of the memories, the bank
mapping of spec/20_memory.md R83, R85 and R94, the floppy heads of spec/60_exceptions.md R565, and where a step can stop. -/

namespace Sys2Proof.Machine

/-- The machine's memory is canonical and lists only addresses that exist. -/
def State.MemoryOk (s : State) : Prop :=
  Memory.wf s.mem = true ∧ Memory.below (pageCount * pageSize) s.mem = true

/-- Slot 3 holds the page the bank latch names wherever that page exists, and always an existing one (R84, R92); slot 0 holds
the ROM it names unless the disk ROM is there (R85, R91, R94); a 48K machine has a fixed mapping (R110). -/
def State.MappingOk (s : State) : Prop :=
  match s.params.variant with
  | .m48 => s.latch = 0 ∧ s.ram3 = 0 ∧ (s.rom = .rom1 ∨ s.rom = s.params.diskRom)
  | .m128 =>
    ((s.latch.extractLsb' 0 3).toNat < s.params.ramBanks → s.ram3 = s.latch.extractLsb' 0 3) ∧
      (0 < s.params.ramBanks → s.ram3.toNat < s.params.ramBanks) ∧
      (s.rom = s.params.diskRom ∨ s.rom = if s.latch.getLsbD 4 then .rom1 else .rom0)

/-- A drive's head is on a track of the disk and its image, if any, is canonical (R565, R566). -/
def Drive.Ok (d : Drive) : Prop := d.head ≤ 79 ∧ ∀ m, d.media = some m → Memory.wf m = true

/-- All four drives are in order. -/
def State.DrivesOk (s : State) : Prop := ∀ k : Fin 4, s.fdc.drives[k].Ok

/-- The invariant of the machine. -/
structure State.Inv (s : State) : Prop where
  memory : s.MemoryOk
  mapping : s.MappingOk
  drives : s.DrivesOk

/-- The physical addresses of the three ROM pages (R85). -/
def romLocation (k : Nat) : Prop := physical (romPage .rom0) 0 ≤ k ∧ k < physical (romPage .disk) 0 + pageSize

/-- The one place where a step stops: an interrupt accepted in mode 0 whose bus byte is no RST opcode (R533, D10). -/
def State.StopsAtBusByte (s : State) : Prop :=
  s.frameDue = true ∧ s.cpu.iff1 = true ∧ s.cpu.im = .im0 ∧ s.params.intBusByte &&& 0xC7 ≠ 0xC7

/-- The machine goes on from this state. -/
def State.Safe (s : State) : Prop := ∃ t, step s = .next t

end Sys2Proof.Machine
end

