-- ==== Sys2Proof/Certificates/Slice0/Obligations.lean ====
section
/-! DEFINITION. The statements for the provers. The first part is the vocabulary they are written in: reference arithmetic
over Nat and Int in the words of the spec's rules, and frames (what an instruction leaves unchanged). -/

namespace Sys2Proof.Claims

open Sys2Proof.Machine

/-! ## Frames -/

/-- The cells of the CPU core (spec/10_state.md R30 to R47). -/
inductive Cell where
  | a | f | b | c | d | e | h | l | a' | f' | b' | c' | d' | e' | h' | l' | ix | iy | sp | pc | memptr | i | rhi | rlo
  | iff1 | iff2 | im | halted | intBlock | clk
deriving DecidableEq, Repr

/-- Every cell of the core that is not among `ws` is the same in `u` and `v`. -/
structure Keeps (ws : List Cell) (u v : Cpu) : Prop where
  a : .a ∉ ws → v.a = u.a
  f : .f ∉ ws → v.f = u.f
  b : .b ∉ ws → v.b = u.b
  c : .c ∉ ws → v.c = u.c
  d : .d ∉ ws → v.d = u.d
  e : .e ∉ ws → v.e = u.e
  h : .h ∉ ws → v.h = u.h
  l : .l ∉ ws → v.l = u.l
  a' : .a' ∉ ws → v.a' = u.a'
  f' : .f' ∉ ws → v.f' = u.f'
  b' : .b' ∉ ws → v.b' = u.b'
  c' : .c' ∉ ws → v.c' = u.c'
  d' : .d' ∉ ws → v.d' = u.d'
  e' : .e' ∉ ws → v.e' = u.e'
  h' : .h' ∉ ws → v.h' = u.h'
  l' : .l' ∉ ws → v.l' = u.l'
  ix : .ix ∉ ws → v.ix = u.ix
  iy : .iy ∉ ws → v.iy = u.iy
  sp : .sp ∉ ws → v.sp = u.sp
  pc : .pc ∉ ws → v.pc = u.pc
  memptr : .memptr ∉ ws → v.memptr = u.memptr
  i : .i ∉ ws → v.i = u.i
  rhi : .rhi ∉ ws → v.rhi = u.rhi
  rlo : .rlo ∉ ws → v.rlo = u.rlo
  iff1 : .iff1 ∉ ws → v.iff1 = u.iff1
  iff2 : .iff2 ∉ ws → v.iff2 = u.iff2
  im : .im ∉ ws → v.im = u.im
  halted : .halted ∉ ws → v.halted = u.halted
  intBlock : .intBlock ∉ ws → v.intBlock = u.intBlock
  clk : .clk ∉ ws → v.clk = u.clk

/-- Only the cells `ws` of the core differ; every byte of memory, the mapping and every device are the same. -/
def Only (ws : List Cell) (s t : State) : Prop := Keeps ws s.cpu t.cpu ∧ t = { s with cpu := t.cpu }

/-- From `s` to `t` the bytes `cells` (address and byte) were stored and the cells `ws` of the core may differ. Every
other byte of memory, the mapping and the devices are the same, but that a store to display memory brings the raster up to the
access clock first (R87). Memory is compared by physical location, since two addresses can share one (R83). -/
structure Stores (ws : List Cell) (s t : State) (cells : List (Word × Byte)) : Prop where
  core : Keeps ws s.cpu t.cpu
  stored : ∀ a v, (a, v) ∈ cells → Memory.read t.mem (s.writeLoc a) = v
  elsewhere : ∀ k, (∀ a v, (a, v) ∈ cells → k ≠ s.writeLoc a) → Memory.read t.mem k = Memory.read s.mem k
  reads : ∀ p, (∀ a v, (a, v) ∈ cells → s.readLoc p ≠ s.writeLoc a) → t.readByte p = s.readByte p
  raster : t.ula = if cells.any fun c => s.isDisplayPage (s.writePage (slotOf c.1)) then
    s.ula.syncTo s.params.video s.accessClk else s.ula
  others : t = { s with cpu := t.cpu, mem := t.mem, ula := t.ula }

/-- The instruction answers a next state, and that state has the property `P`. -/
def Runs (i : Instr) (s : State) (P : State → Prop) : Prop := ∃ t, exec i s = .next t ∧ P t

/-- The clock of `t` is that of `s` and the cost of the instruction: with `taken` the `tstates_taken` of its row, else its
`tstates`. `cost` is that figure in spec/opcode_table.json; it is what the machine charges unless the machine's own `TSTATES`
replaces the row (R8, R620). -/
def Costs (i : Instr) (taken : Bool) (cost : Nat) (s t : State) : Prop :=
  if taken then t.cpu.clk = s.cpu.clk + s.tstatesTaken i ∧ i.tstatesTaken = cost
  else t.cpu.clk = s.cpu.clk + s.tstates i ∧ i.tstates = cost

/-- The instruction answers a next state in which only the cells `ws` and the clock differ, the clock by its cost, which is
`cost` in the table, and `P` holds. With `taken` it branches or repeats. -/
def DoesAs (taken : Bool) (i : Instr) (s : State) (ws : List Cell) (cost : Nat) (P : State → Prop) : Prop :=
  ∃ t, exec i s = .next t ∧ Costs i taken cost s t ∧ Only (.clk :: ws) s t ∧ P t

/-- An instruction that neither branches nor repeats. -/
def Does (i : Instr) (s : State) (ws : List Cell) (cost : Nat) (P : State → Prop) : Prop := DoesAs false i s ws cost P

/-- The instruction answers a next state in which the bytes `cells` are stored, only the cells `ws` and the clock differ, the
clock by its cost, which is `cost` in the table, and `P` holds. With `taken` it branches or repeats. -/
def DoesStoreAs (taken : Bool) (i : Instr) (s : State) (ws : List Cell) (cost : Nat) (cells : List (Word × Byte))
    (P : State → Prop) : Prop :=
  ∃ t, exec i s = .next t ∧ Costs i taken cost s t ∧ Stores (.clk :: ws) s t cells ∧ P t

/-- A storing instruction that neither branches nor repeats. -/
def DoesStore (i : Instr) (s : State) (ws : List Cell) (cost : Nat) (cells : List (Word × Byte)) (P : State → Prop) : Prop :=
  DoesStoreAs false i s ws cost cells P

/-- The cell of an 8-bit register field. -/
def regCell : Reg8 → Cell
  | .b => .b
  | .c => .c
  | .d => .d
  | .e => .e
  | .h => .h
  | .l => .l
  | .a => .a

/-- The cells of a register pair. -/
def pairCells : RegPair → List Cell
  | .bc => [.b, .c]
  | .de => [.d, .e]
  | .hl => [.h, .l]
  | .sp => [.sp]

/-- The cells of a stack pair. -/
def stackCells : StackPair → List Cell
  | .bc => [.b, .c]
  | .de => [.d, .e]
  | .hl => [.h, .l]
  | .af => [.a, .f]

/-- The cell of an index register. -/
def idxCell : IdxReg → Cell
  | .ix => .ix
  | .iy => .iy

/-- The cells of a register field under an index prefix. -/
def hregCell (x : IdxReg) : HReg → Cell
  | .b => .b
  | .c => .c
  | .d => .d
  | .e => .e
  | .xh => idxCell x
  | .xl => idxCell x
  | .a => .a

/-- The two bytes a word is stored as: low byte first (R95). -/
def wordCells (a v : Word) : List (Word × Byte) := [(a, v.lo), (a + 1, v.hi)]

/-! ## Reference arithmetic: the rules' integer formulas -/

/-- Bit `k` of a number. -/
def bit (n k : Nat) : Bool := decide (n / 2 ^ k % 2 = 1)

/-- F from its eight bits (R36). -/
def flagByte (s z y h x pv n c : Bool) : Byte :=
  BitVec.ofNat 8
    (128 * s.toNat + 64 * z.toNat + 32 * y.toNat + 16 * h.toNat + 8 * x.toNat + 4 * pv.toNat + 2 * n.toNat + c.toNat)

/-- The number has an even number of 1 bits among its low eight (R11). -/
def evenParity (n : Nat) : Bool :=
  decide (((List.range 8).map fun k => n / 2 ^ k % 2).sum % 2 = 0)

/-- `A + v + c` and its flags (R291, R292): the sum as a natural number and as a signed one. -/
def refAdd (a v : Byte) (c : Bool) : Byte × Byte :=
  let n := a.toNat + v.toNat + c.toNat
  let z : Int := a.toInt + v.toInt + c.toNat
  (BitVec.ofNat 8 n,
    flagByte (bit n 7) (n % 256 == 0) (bit n 5) (decide (16 ≤ a.toNat % 16 + v.toNat % 16 + c.toNat)) (bit n 3)
      (decide (z < -128 ∨ 127 < z)) false (decide (256 ≤ n)))

/-- `A - v - c` and its flags (R293, R294), Y and X taken from `w`. -/
def refSubFrom (a v : Byte) (c : Bool) (w : Byte → Byte) : Byte × Byte :=
  let n : Int := (a.toNat : Int) - v.toNat - c.toNat
  let z : Int := a.toInt - v.toInt - c.toNat
  let r := BitVec.ofInt 8 n
  (r,
    flagByte (bit r.toNat 7) (r.toNat == 0) (bit (w r).toNat 5) (decide ((a.toNat % 16 : Nat) < v.toNat % 16 + c.toNat))
      (bit (w r).toNat 3) (decide (z < -128 ∨ 127 < z)) true (decide (n < 0)))

/-- `A - v - c`: Y and X come from the result. -/
def refSub (a v : Byte) (c : Bool) : Byte × Byte := refSubFrom a v c id

/-- F after `CP v` (R298): as `SUB v`, but Y and X come from the operand. -/
def refCp (a v : Byte) : Byte := (refSubFrom a v false fun _ => v).2

/-- A logic result with SZXYP, H as given and N = C = 0 (R295 to R297). -/
def refLogic (r : Byte) (h : Bool) : Byte × Byte :=
  (r, flagByte (bit r.toNat 7) (r.toNat == 0) (bit r.toNat 5) h (bit r.toNat 3) (evenParity r.toNat) false false)

/-- `v + 1` (R300): C is kept. -/
def refInc (v : Byte) (c : Bool) : Byte × Byte :=
  let n := (v.toNat + 1) % 256
  (BitVec.ofNat 8 n,
    flagByte (bit n 7) (n == 0) (bit n 5) (decide (v.toNat % 16 = 15)) (bit n 3) (decide (v.toInt = 127)) false c)

/-- `v - 1` (R304): C is kept. -/
def refDec (v : Byte) (c : Bool) : Byte × Byte :=
  let n := (v.toNat + 255) % 256
  (BitVec.ofNat 8 n,
    flagByte (bit n 7) (n == 0) (bit n 5) (decide (v.toNat % 16 = 0)) (bit n 3) (decide (v.toInt = -128)) true c)

/-- `a + v` (R350): S, Z and PV are those of the old F, H is the carry out of bit 11. -/
def refAdd16 (a v : Word) (f : Byte) : Word × Byte :=
  let n := a.toNat + v.toNat
  (BitVec.ofNat 16 n,
    flagByte (bit f.toNat 7) (bit f.toNat 6) (bit n 13) (decide (4096 ≤ a.toNat % 4096 + v.toNat % 4096)) (bit n 11)
      (bit f.toNat 2) false (decide (65536 ≤ n)))

/-- `a + v + c` (R351). -/
def refAdc16 (a v : Word) (c : Bool) : Word × Byte :=
  let n := a.toNat + v.toNat + c.toNat
  let z : Int := a.toInt + v.toInt + c.toNat
  (BitVec.ofNat 16 n,
    flagByte (bit n 15) (n % 65536 == 0) (bit n 13) (decide (4096 ≤ a.toNat % 4096 + v.toNat % 4096 + c.toNat)) (bit n 11)
      (decide (z < -32768 ∨ 32767 < z)) false (decide (65536 ≤ n)))

/-- `a - v - c` (R352). -/
def refSbc16 (a v : Word) (c : Bool) : Word × Byte :=
  let n : Int := (a.toNat : Int) - v.toNat - c.toNat
  let z : Int := a.toInt - v.toInt - c.toNat
  let r := BitVec.ofInt 16 n
  (r,
    flagByte (bit r.toNat 15) (r.toNat == 0) (bit r.toNat 13) (decide (a.toNat % 4096 < v.toNat % 4096 + c.toNat))
      (bit r.toNat 11) (decide (z < -32768 ∨ 32767 < z)) true (decide (n < 0)))

/-- A rotate or shift of the number `v` with the old carry `c` (R384 to R391): the new number and the bit shifted out. -/
def refShift (o : Rot) (v c : Nat) : Nat × Nat :=
  match o with
  | .rlc => (v * 2 % 256 + v / 128, v / 128)
  | .rrc => (v / 2 + 128 * (v % 2), v % 2)
  | .rl => (v * 2 % 256 + c, v / 128)
  | .rr => (v / 2 + 128 * c, v % 2)
  | .sla => (v * 2 % 256, v / 128)
  | .sra => (v / 2 + 128 * (v / 128), v % 2)
  | .sll => (v * 2 % 256 + 1, v / 128)
  | .srl => (v / 2, v % 2)

/-- A CB rotate or shift and its flags (R384 to R391): SZXYP, H = N = 0, C the bit shifted out. -/
def refRot (o : Rot) (v f : Byte) : Byte × Byte :=
  let x := refShift o v.toNat (f.toNat % 2)
  (BitVec.ofNat 8 x.1,
    flagByte (bit x.1 7) (x.1 == 0) (bit x.1 5) false (bit x.1 3) (evenParity x.1) false (x.2 == 1))

/-- An accumulator rotate (R380 to R383): S, Z and PV are those of the old F. -/
def refRotA (o : Rot) (a f : Byte) : Byte × Byte :=
  let x := refShift o a.toNat (f.toNat % 2)
  (BitVec.ofNat 8 x.1,
    flagByte (bit f.toNat 7) (bit f.toNat 6) (bit x.1 5) false (bit x.1 3) (bit f.toNat 2) false (x.2 == 1))

/-- F after BIT b of `v` (R410): `y` and `x` are the bits Y and X. -/
def refBit (b : BitVec 3) (v f : Byte) (y x : Bool) : Byte :=
  flagByte (b == 7 && bit v.toNat 7) (!bit v.toNat b.toNat) y true x (!bit v.toNat b.toNat) false (bit f.toNat 0)

/-- Bit `b` of `r` is `on` and every other bit is that of `v`. -/
def BitSetTo (b : BitVec 3) (on : Bool) (v r : Byte) : Prop :=
  ∀ k < 8, r.getLsbD k = if k = b.toNat then on else v.getLsbD k

/-- F after a block transfer (R265): `v` is the byte moved. -/
def refLdBlock (a v f : Byte) (more : Bool) : Byte :=
  let n := a.toNat + v.toNat
  flagByte (bit f.toNat 7) (bit f.toNat 6) (bit n 1) false (bit n 3) more false (bit f.toNat 0)

/-- F after a block search (R267): `v` is the byte compared. -/
def refCpBlock (a v f : Byte) (more : Bool) : Byte :=
  let r := (a.toNat + 256 - v.toNat) % 256
  let h := decide (a.toNat % 16 < v.toNat % 16)
  let n := (r + 256 - h.toNat) % 256
  flagByte (bit r 7) (r == 0) (bit n 1) h (bit n 3) more true (bit f.toNat 0)

/-- F after a block input or output (R494): `v` was moved, `k` is the rule's sum, `b` the new B. -/
def refIoBlock (v b : Byte) (k : Nat) : Byte :=
  flagByte (bit b.toNat 7) (b.toNat == 0) (bit b.toNat 5) (decide (256 ≤ k)) (bit b.toNat 3)
    (evenParity (Nat.xor (k % 8) b.toNat)) (bit v.toNat 7) (decide (256 ≤ k))

/-- F after `IN r,(C)` of `v` (R481). -/
def refIn (v f : Byte) : Byte :=
  flagByte (bit v.toNat 7) (v.toNat == 0) (bit v.toNat 5) false (bit v.toNat 3) (evenParity v.toNat) false (bit f.toNat 0)

/-- `mod16(w + s8(d))` (R142, R143). -/
def plusSigned (w : Word) (d : Byte) : Word := BitVec.ofInt 16 ((w.toNat : Int) + d.toInt)

/-! ## Operand forms of the ALU (R290) -/

/-- The eight ALU operations in the order of their field (R135). -/
inductive AluOp where
  | add | adc | sub | sbc | and | xor | or | cp
deriving DecidableEq, Repr

/-- The operand forms of R290. -/
inductive Src where
  | reg (r : Reg8)
  | memHl
  | imm (n : Byte)
  | indexed (x : IdxReg) (d : Byte)
  | half (x : IdxReg) (h : Half)
deriving DecidableEq, Repr

/-- The operand a form reads. -/
def Src.value (s : State) : Src → Byte
  | .reg r => s.reg8 r
  | .memHl => s.readByte s.hl
  | .imm n => n
  | .indexed x d => s.readByte (plusSigned (s.xy x) d)
  | .half x h => s.half x h

/-- The T-states a form costs. -/
def Src.cost : Src → Nat
  | .reg _ => 4
  | .memHl => 7
  | .imm _ => 7
  | .indexed _ _ => 19
  | .half _ _ => 8

/-- What a form leaves in MEMPTR. -/
def Src.memptr (s : State) : Src → Word
  | .reg _ => s.cpu.memptr
  | .memHl => s.cpu.memptr
  | .imm _ => s.cpu.memptr
  | .indexed x d => plusSigned (s.xy x) d
  | .half _ _ => s.cpu.memptr

/-- The instruction of an operation and a form. -/
def aluInstr : AluOp → Src → Instr
  | .add, .reg r => .addAR r
  | .add, .memHl => .addAMHl
  | .add, .imm n => .addAN n
  | .add, .indexed .ix d => .addAMIxd d
  | .add, .indexed .iy d => .addAMIyd d
  | .add, .half x h => .addAXh x h
  | .adc, .reg r => .adcAR r
  | .adc, .memHl => .adcAMHl
  | .adc, .imm n => .adcAN n
  | .adc, .indexed .ix d => .adcAMIxd d
  | .adc, .indexed .iy d => .adcAMIyd d
  | .adc, .half x h => .adcAXh x h
  | .sub, .reg r => .subR r
  | .sub, .memHl => .subMHl
  | .sub, .imm n => .subN n
  | .sub, .indexed .ix d => .subMIxd d
  | .sub, .indexed .iy d => .subMIyd d
  | .sub, .half x h => .subXh x h
  | .sbc, .reg r => .sbcAR r
  | .sbc, .memHl => .sbcAMHl
  | .sbc, .imm n => .sbcAN n
  | .sbc, .indexed .ix d => .sbcAMIxd d
  | .sbc, .indexed .iy d => .sbcAMIyd d
  | .sbc, .half x h => .sbcAXh x h
  | .and, .reg r => .andR r
  | .and, .memHl => .andMHl
  | .and, .imm n => .andN n
  | .and, .indexed .ix d => .andMIxd d
  | .and, .indexed .iy d => .andMIyd d
  | .and, .half x h => .andXh x h
  | .xor, .reg r => .xorR r
  | .xor, .memHl => .xorMHl
  | .xor, .imm n => .xorN n
  | .xor, .indexed .ix d => .xorMIxd d
  | .xor, .indexed .iy d => .xorMIyd d
  | .xor, .half x h => .xorXh x h
  | .or, .reg r => .orR r
  | .or, .memHl => .orMHl
  | .or, .imm n => .orN n
  | .or, .indexed .ix d => .orMIxd d
  | .or, .indexed .iy d => .orMIyd d
  | .or, .half x h => .orXh x h
  | .cp, .reg r => .cpR r
  | .cp, .memHl => .cpMHl
  | .cp, .imm n => .cpN n
  | .cp, .indexed .ix d => .cpMIxd d
  | .cp, .indexed .iy d => .cpMIyd d
  | .cp, .half x h => .cpXh x h

/-! ## More references -/

/-- DAA (R320) over natural numbers: the correction, the result, and its flags. -/
def refDaa (a f : Byte) : Byte × Byte :=
  let n := a.toNat
  let low := if bit f.toNat 4 ∨ 9 < n % 16 then 6 else 0
  let up := decide (bit f.toNat 0 = true ∨ 153 < n)
  let t := low + if up then 96 else 0
  let r := if bit f.toNat 1 then (n + 256 - t) % 256 else (n + t) % 256
  let h := if bit f.toNat 1 then bit f.toNat 4 && decide (n % 16 < 6) else decide (9 < n % 16)
  (BitVec.ofNat 8 r, flagByte (bit r 7) (r == 0) (bit r 5) h (bit r 3) (evenParity r) (bit f.toNat 1) up)

/-- The byte whose two digits are the decimal digits of a number below 100. -/
def bcd (n : Nat) : Byte := BitVec.ofNat 8 (n / 10 * 16 + n % 10)

/-- The test of F a condition stands for (R39). -/
def refCond (cc : Cond) (f : Byte) : Bool :=
  match cc with
  | .nz => !bit f.toNat 6
  | .z => bit f.toNat 6
  | .nc => !bit f.toNat 0
  | .c => bit f.toNat 0
  | .po => !bit f.toNat 2
  | .pe => bit f.toNat 2
  | .p => !bit f.toNat 7
  | .m => bit f.toNat 7

/-- F after `LD A,I` or `LD A,R` (R214): `y` and `x` are the bits Y and X. -/
def refLdAI (v f : Byte) (iff2 y x : Bool) : Byte :=
  flagByte (bit v.toNat 7) (v.toNat == 0) y false x iff2 false (bit f.toNat 0)

/-- F after RLD or RRD leaves `a` in A (R394, R395). -/
def refDigit (a f : Byte) : Byte :=
  flagByte (bit a.toNat 7) (a.toNat == 0) (bit a.toNat 5) false (bit a.toNat 3) (evenParity a.toNat) false (bit f.toNat 0)

/-! ## Operand forms of the other groups -/

/-- The rotate or shift of a register. -/
def rotRInstr : Rot → Reg8 → Instr
  | .rlc, r => .rlcR r
  | .rrc, r => .rrcR r
  | .rl, r => .rlR r
  | .rr, r => .rrR r
  | .sla, r => .slaR r
  | .sra, r => .sraR r
  | .sll, r => .sllR r
  | .srl, r => .srlR r

/-- The rotate or shift of (HL). -/
def rotHlInstr : Rot → Instr
  | .rlc => .rlcMHl
  | .rrc => .rrcMHl
  | .rl => .rlMHl
  | .rr => .rrMHl
  | .sla => .slaMHl
  | .sra => .sraMHl
  | .sll => .sllMHl
  | .srl => .srlMHl

/-- The rotate or shift of (IX+d) or (IY+d). -/
def rotIdxInstr : Rot → IdxReg → Byte → Instr
  | .rlc, .ix, d => .rlcMIxd d
  | .rrc, .ix, d => .rrcMIxd d
  | .rl, .ix, d => .rlMIxd d
  | .rr, .ix, d => .rrMIxd d
  | .sla, .ix, d => .slaMIxd d
  | .sra, .ix, d => .sraMIxd d
  | .sll, .ix, d => .sllMIxd d
  | .srl, .ix, d => .srlMIxd d
  | .rlc, .iy, d => .rlcMIyd d
  | .rrc, .iy, d => .rrcMIyd d
  | .rl, .iy, d => .rlMIyd d
  | .rr, .iy, d => .rrMIyd d
  | .sla, .iy, d => .slaMIyd d
  | .sra, .iy, d => .sraMIyd d
  | .sll, .iy, d => .sllMIyd d
  | .srl, .iy, d => .srlMIyd d

/-! ## Ports -/

/-- The instruction answers a next state in which a read of `port` has had its effect on the devices, and only the cells `ws`
and the clock differ, the clock by its cost; `P` holds. -/
def DoesIn (i : Instr) (s : State) (port : Word) (ws : List Cell) (cost : Nat) (P : State → Prop) : Prop :=
  ∃ t, exec i s = .next t ∧ Costs i false cost s t ∧ Keeps (.clk :: ws) s.cpu t.cpu ∧
    t = { s.portRead port with cpu := t.cpu } ∧ P t

/-- The instruction answers a next state in which a write of `v` to `port` has had its effect on the devices, and only the
cells `ws` and the clock differ, the clock by its cost; `P` holds. With `taken` it repeats. -/
def DoesOutAs (taken : Bool) (i : Instr) (s : State) (port : Word) (v : Byte) (ws : List Cell) (cost : Nat)
    (P : State → Prop) : Prop :=
  ∃ t, exec i s = .next t ∧ Costs i taken cost s t ∧ Keeps (.clk :: ws) s.cpu t.cpu ∧
    t = { s.ioWrite port v with cpu := t.cpu } ∧ P t

/-- An output that does not repeat. -/
def DoesOut (i : Instr) (s : State) (port : Word) (v : Byte) (ws : List Cell) (cost : Nat) (P : State → Prop) : Prop :=
  DoesOutAs false i s port v ws cost P

/-- The cells a repeating block instruction changes beside those of its single form. -/
def repeatCells (again : Bool) : List Cell := if again then [.pc] else []

/-! ## Instructions that write particular state -/

/-- The instruction inside an escape, or the instruction itself. -/
def core : Instr → Instr
  | .ddEscape i => i
  | .fdEscape i => i
  | i => i

/-- What an index prefix adds to the cost of the instruction it escapes into (R151). -/
def prefixCost (s : State) : Instr → Nat
  | .ddEscape i => s.tstates (.ddEscape i)
  | .fdEscape i => s.tstates (.fdEscape i)
  | _ => 0

/-- The instructions that store to memory. -/
def storesMemory (i : Instr) : Bool :=
  match core i with
  | .ldMBcA | .ldMDeA | .ldMNnHl _ | .ldMNnA _ | .incMHl | .decMHl | .ldMHlN _ | .ldMHlR _ | .pushQq _ | .callNn _
  | .callCcNn _ _ | .rstP _ | .exMSpHl | .rlcMHl | .rrcMHl | .rlMHl | .rrMHl | .slaMHl | .sraMHl | .sllMHl | .srlMHl
  | .resBMHl _ | .setBMHl _ | .ldMNnRr _ _ | .rrd | .rld | .ldi | .ldd | .ldir | .lddr | .ini | .ind | .inir | .indr
  | .ldMNnIx _ | .incMIxd _ | .decMIxd _ | .ldMIxdN _ _ | .ldMIxdR _ _ | .exMSpIx | .pushIx | .rlcMIxd _ | .rrcMIxd _
  | .rlMIxd _ | .rrMIxd _ | .slaMIxd _ | .sraMIxd _ | .sllMIxd _ | .srlMIxd _ | .rotMIxdR _ _ _ | .resBMIxd _ _
  | .setBMIxd _ _ | .resBMIxdR _ _ _ | .setBMIxdR _ _ _
  | .ldMNnIy _ | .incMIyd _ | .decMIyd _ | .ldMIydN _ _ | .ldMIydR _ _ | .exMSpIy | .pushIy | .rlcMIyd _ | .rrcMIyd _
  | .rlMIyd _ | .rrMIyd _ | .slaMIyd _ | .sraMIyd _ | .sllMIyd _ | .srlMIyd _ | .rotMIydR _ _ _ | .resBMIyd _ _
  | .setBMIyd _ _ | .resBMIydR _ _ _ | .setBMIydR _ _ _ => true
  | _ => false

/-- The instructions that read or write a port. -/
def usesPort (i : Instr) : Bool :=
  match core i with
  | .inAMN _ | .outMNA _ | .inRMC _ | .inFMC | .outMCR _ | .outMC0 | .ini | .ind | .inir | .indr | .outi | .outd | .otir
  | .otdr => true
  | _ => false

/-- Where a frame boundary stands before the host's calls when no interrupt is taken (R530, R570): every device has caught up,
each baseline and the clock are lowered by the budget. -/
def quietFrameEnd (s : State) : State :=
  { s with
    cpu := { s.cpu with clk := s.cpu.clk - s.params.frameBudget }
    ula := (s.ula.syncTo s.params.video s.cpu.clk).frameEnd s.params.frameBudget
    ay := (s.ay.update s.params.audio s.params.ayTables s.cpu.clk).frameEnd s.params.frameBudget
    fdc := (s.fdc.update s.params.fdc s.cpu.clk).frameEnd s.params.frameBudget
    tape := (s.tape.update s.params.tape s.cpu.clk).frameEnd s.params.frameBudget }

/-- The state after the frame boundary's host calls, done in call order, their answers recorded (R541, R584). -/
def afterHostCalls (s : State) : State :=
  let out := s.hostActions s.pending
  { out.2 with pending := [], answers := out.1 }

/-- The values R51, R110 and R601 give a machine in the reset state, for the core, the mapping and the devices. -/
def ResetState (s : State) : Prop :=
  s.cpu.pc = 0x0000 ∧ s.cpu.iff1 = false ∧ s.cpu.iff2 = false ∧ s.cpu.im = .im0 ∧ s.cpu.i = 0x00 ∧ s.rReg = 0x00 ∧
  s.af = 0xFFFF ∧ s.cpu.sp = 0xFFFF ∧ s.cpu.halted = false ∧ s.cpu.intBlock = false ∧ s.cpu.clk = 0 ∧
  s.latch = 0x00 ∧ (s.params.variant = .m128 → s.ram3 = 0 ∧ s.rom = .rom0) ∧ (s.params.variant = .m48 → s.rom = .rom1) ∧
  s.ula.baseline = 0 ∧ s.ula.border = 0 ∧ s.ula.mic = false ∧ s.ula.beeper = false ∧ s.ula.cursor = 0 ∧
  s.ula.flash = false ∧ s.ula.frames = 0 ∧
  s.ay.baseline = 0 ∧ (∀ r : BitVec 4, s.ay.reg r = 0) ∧ s.ay.sel = 0 ∧ s.ay.toneA.count = 0 ∧ s.ay.toneB.count = 0 ∧
  s.ay.toneC.count = 0 ∧ s.ay.noiseCount = 0 ∧ s.ay.lfsr = s.params.ayTables.lfsrSeed ∧ s.ay.envStep = 0 ∧
  s.fdc.baseline = 0 ∧ s.fdc.busy = false ∧ s.fdc.statusByte = (if s.fdc.drives[0].media = none then 0x80 else 0x00) ∧
  s.fdc.command = 0 ∧ s.fdc.track = 0 ∧ s.fdc.sector = 0 ∧ s.fdc.data = 0 ∧ s.fdc.system = 0 ∧
  s.tape.baseline = 0 ∧ s.tape.phase = .stop ∧ s.tape.latch = false

/-- PC as an interrupt pushes it: past the HALT opcode when the core is halted (R532). -/
def resumePc (s : State) : Word := if s.cpu.halted then s.cpu.pc + 1 else s.cpu.pc

end Sys2Proof.Claims

section
open Sys2Proof Sys2Proof.Machine Sys2Proof.Claims

/-! ## Encoding -/

/-- Words written out from the spec's bit patterns decode to the instructions they stand for: one of each part of the base
table (x = 0 to 3, R133 to R136), a CB word (R137), ED words with the block group and a no-op (R138, R139, R154), and words
behind an index prefix (R150 to R153), with the operand order of R141 and R142. -/
def Obligations.SampleWordsDecode : Prop :=
  decode [0x3A, 0x34, 0x12, 0x00] = .ok (.ldAMNn 0x1234) ∧
  decode [0x46, 0x00, 0x00, 0x00] = .ok (.ldRMHl .b) ∧
  decode [0x9C, 0x00, 0x00, 0x00] = .ok (.sbcAR .h) ∧
  decode [0xC3, 0x34, 0x12, 0x00] = .ok (.jpNn 0x1234) ∧
  decode [0xCB, 0x7E, 0x00, 0x00] = .ok (.bitBMHl 7) ∧
  decode [0xED, 0x5B, 0x78, 0x56] = .ok (.ldRrMNn .de 0x5678) ∧
  decode [0xED, 0xB0, 0x00, 0x00] = .ok .ldir ∧
  decode [0xED, 0x77, 0x00, 0x00] = .ok (.nopStar 0x77) ∧
  decode [0xDD, 0x36, 0x05, 0xAA] = .ok (.ldMIxdN 0x05 0xAA) ∧
  decode [0xFD, 0x66, 0xFE, 0x00] = .ok (.ldRMIyd .h 0xFE) ∧
  decode [0xFD, 0x85, 0x00, 0x00] = .ok (.addAXh .iy .lo) ∧
  decode [0xDD, 0xCB, 0x02, 0x38] = .ok (.rotMIxdR .srl 0x02 .b) ∧
  decode [0xDD, 0xFD, 0x21, 0x34] = .ok (.ddRedundant .fd) ∧
  decode [0xFD, 0x3E, 0x07, 0x00] = .ok (.fdEscape (.ldRN .a 0x07))

/-- Decoding the encoding of a well-formed instruction gives it back, with every operand, whatever bytes follow. -/
def Obligations.DecodeEncode : Prop :=
  ∀ (i : Instr) (rest : List Byte), i.wellFormed = true → decode (encode i ++ rest) = .ok i

/-- Every sequence of four bytes decodes, to a well-formed instruction (R155). -/
def Obligations.EverySequenceDecodes : Prop :=
  ∀ b0 b1 b2 b3 : Byte, ∃ i, decode [b0, b1, b2, b3] = .ok i ∧ i.wellFormed = true

/-- What the decoder reads is the encoding of what it answers: each byte sequence has one meaning, and no byte of it is
dropped (R157). -/
def Obligations.EncodeDecode : Prop :=
  ∀ (bytes : List Byte) (i : Instr), decode bytes = .ok i → i.wellFormed = true ∧ encode i <+: bytes

/-! ## The step -/

/-- While no frame boundary is due, a step runs the instruction that the fetched bytes decode to, from the state the fetch
leaves with PC past the instruction and `int_block` clear, and the refresh counter advances by one after it or, in the other
mode, by its opcode fetches before it (R160, R163). -/
def Obligations.StepRunsDecodedInstruction : Prop :=
  ∀ (s : State) (i : Instr), s.frameDue = false → decode s.fetch.1 = .ok i → i.wellFormed = true →
    let u := s.fetch.2
    let v : State :=
      { u with
        cpu :=
          { u.cpu with
            pc := u.cpu.pc + BitVec.ofNat 16 i.length
            intBlock := false
            rlo :=
              match u.params.refreshMode with
              | .perStepAfter => u.cpu.rlo
              | .perM1 => u.cpu.rlo + BitVec.ofNat 7 i.m1Count } }
    step s =
      match exec i v with
      | .next t =>
        .next
          { t with
            cpu :=
              { t.cpu with
                rlo :=
                  match t.params.refreshMode with
                  | .perStepAfter => t.cpu.rlo + 1
                  | .perM1 => t.cpu.rlo } }
      | .fault r => .fault r
      | .refused r => .refused r

/-- What the instruction fetch reads and leaves (R88, R89, R160): with no trap locus at PC or, after a prefix, at the next
address, and the disk ROM not selected, the fetched bytes are the four bytes at PC and the state is unchanged. That four bytes
are read whatever the instruction's length is the model's (DEDUCED: notes/assumptions/10.md): R160 fetches only those the
instruction has, and the others are argument reads without an effect. -/
def Obligations.PlainFetch : Prop :=
  ∀ s : State, s.rom ≠ s.params.diskRom → s.trapEnters s.cpu.pc = false →
    (isPrefixByte (s.readByte s.cpu.pc) = true → s.trapEnters (s.cpu.pc + 1) = false) →
    s.fetch =
      ([s.readByte s.cpu.pc, s.readByte (s.cpu.pc + 1), s.readByte (s.cpu.pc + 2), s.readByte (s.cpu.pc + 3)], s)

/-- An opcode fetch at a trap locus while the main ROM is selected brings in the disk ROM before it reads, and reads the disk
ROM's byte; while the disk ROM is selected, an opcode fetch from TRAP_EXIT (0x4000 by default) upward restores the ROM the bank
latch names and reads through the execute mapping then selected, which from 0x4000 upward is the byte in RAM; any other opcode
fetch leaves the mapping, and no fetch changes anything else (R88, R90, R91, R93). -/
def Obligations.TrapEntryAndExit : Prop :=
  ∀ (s : State) (a : Word),
    let diskRom := s.params.diskRom
    let enters := s.rom = s.params.trapRom ∧ a.toNat < 0x4000 ∧ a ∈ s.params.trapLoci
    let exits := s.rom = diskRom ∧ s.params.trapExit.toNat ≤ a.toNat
    let restored : State :=
      { s with
        rom := match s.params.variant with
          | .m48 => .rom1
          | .m128 => if s.latch.getLsbD 4 then .rom1 else .rom0 }
    (enters → s.fetchOp a = (Memory.read s.mem (romPage diskRom * 16384 + a.toNat), { s with rom := diskRom })) ∧
    (¬enters → exits →
      s.fetchOp a = (restored.execByte a, restored) ∧ (0x4000 ≤ a.toNat → restored.execByte a = s.readByte a)) ∧
    (¬enters → ¬exits → s.fetchOp a = (s.readByte a, s))

/-- A step never faults, and the one place where it stops is an interrupt accepted in mode 0 whose bus byte is no RST opcode
(R520, R521, R533): from every other state the machine goes on. -/
def Obligations.StepGoesOn : Prop :=
  ∀ s : State,
    (s.StopsAtBusByte → step s = .refused .im0BusByteNotRst) ∧ (¬s.StopsAtBusByte → s.Safe)

/-! ## Reset -/

/-- The values R51 gives the core in the reset state, and those R110 and R601 give the mapping and the devices, after
construction with nothing loaded and at a later host reset, which keeps memory, the drives' head positions and media, the
tape's image and its cursor (R600, R601). The empty queue of host calls and of their answers is the model's own
(notes/assumptions/26.md). -/
def Obligations.ResetValues : Prop :=
  (∀ p : Params,
    let s := State.resetWith p
    ResetState s ∧ (∀ k : Fin 4, s.fdc.drives[k].media = none) ∧ s.pending = [] ∧ s.answers = [] ∧ s.params = p) ∧
  ∀ s : State,
    let t := s.hostReset
    ResetState t ∧ t.mem = s.mem ∧ t.params = s.params ∧ t.tape.image = s.tape.image ∧ t.tape.pos = s.tape.pos ∧
      ∀ k : Fin 4, t.fdc.drives[k].head = s.fdc.drives[k].head ∧ t.fdc.drives[k].media = s.fdc.drives[k].media

/-- The invariant holds right after reset. -/
def Obligations.ResetInvariant : Prop := ∀ p : Params, (State.resetWith p).Inv

/-! ## Whole-machine rules -/

/-- Every step keeps the invariant: the memory's canonical form, the mapping's agreement with the bank latch, and the
drives (R83, R85, R94, R565). -/
def Obligations.StepKeepsInvariant : Prop := ∀ s t : State, s.Inv → step s = .next t → t.Inv

/-- No step changes a byte of a ROM page or a parameter of the machine (R81, R83, R87). -/
def Obligations.StepKeepsRomAndParameters : Prop :=
  ∀ s t : State, step s = .next t →
    t.params = s.params ∧ ∀ k, romLocation k → Memory.read t.mem k = Memory.read s.mem k

/-- Only the instructions listed change the state named (R31, R40 to R46, R163): the interrupt flip-flops, the interrupt mode,
I, R, the alternate set, `halted` and `int_block`. -/
def Obligations.SystemStateWriters : Prop :=
  ∀ (i : Instr) (s t : State), exec i s = .next t →
    (t.cpu.iff1 = s.cpu.iff1 ∨ core i ∈ [.ei, .di, .reti] ∨ ∃ y, i = .retn y) ∧
    (t.cpu.iff2 = s.cpu.iff2 ∨ core i ∈ [.ei, .di]) ∧
    (t.cpu.im = s.cpu.im ∨ ∃ y, i = .im0 y ∨ i = .im1 y ∨ i = .im2 y) ∧
    (t.cpu.i = s.cpu.i ∨ i = .ldIA) ∧
    (t.rReg = s.rReg ∨ i = .ldRA) ∧
    (Word.ofBytes t.cpu.a' t.cpu.f' = Word.ofBytes s.cpu.a' s.cpu.f' ∨ core i = .exAfAf) ∧
    ((t.cpu.b' = s.cpu.b' ∧ t.cpu.c' = s.cpu.c' ∧ t.cpu.d' = s.cpu.d' ∧ t.cpu.e' = s.cpu.e' ∧ t.cpu.h' = s.cpu.h' ∧
      t.cpu.l' = s.cpu.l') ∨ core i = .exx) ∧
    (t.cpu.halted = s.cpu.halted ∨ core i = .halt) ∧
    (t.cpu.intBlock = s.cpu.intBlock ∨ core i = .ei ∨ ∃ f, i = .ddRedundant f ∨ i = .fdRedundant f)

/-- An instruction that is not among the storing ones leaves every byte of memory as it was, and one that uses no port leaves
the mapping, the sound chip, the floppy controller and the tape deck as they were (R86, R87, R99). -/
def Obligations.MemoryAndDeviceWriters : Prop :=
  ∀ (i : Instr) (s t : State), exec i s = .next t →
    (storesMemory i = false → ∀ k, Memory.read t.mem k = Memory.read s.mem k) ∧
    (usesPort i = false →
      t.rom = s.rom ∧ t.ram3 = s.ram3 ∧ t.latch = s.latch ∧ t.ay = s.ay ∧ t.fdc = s.fdc ∧ t.tape = s.tape ∧
        t.ula.border = s.ula.border ∧ t.ula.mic = s.ula.mic ∧ t.ula.beeper = s.ula.beeper) ∧
    t.pending = s.pending ∧ t.answers = s.answers ∧ t.draws = s.draws ∧ t.params = s.params

/-- An instruction charges the cost of its row (R48, R162, R620): the clock moves on by `tstates` or, where the row has it,
`tstates_taken`, an escape adding its prefix's cost (R151), and never falls. The costs are those of spec/opcode_table.json,
with which an instruction takes 4 to 23 T-states, but for a row that the machine's own `TSTATES` replaces. That `TSTATES`, which
R8 makes a parameter, is a list of replacing rows of which the first for an instruction gives both its costs is the model's
choice (notes/assumptions/8.md). -/
def Obligations.ClockOnlyGrows : Prop :=
  (∀ (i : Instr) (s t : State), exec i s = .next t →
    s.cpu.clk ≤ t.cpu.clk ∧
    (t.cpu.clk = s.cpu.clk + s.tstates (core i) + prefixCost s i ∨
      t.cpu.clk = s.cpu.clk + s.tstatesTaken (core i) + prefixCost s i) ∧
    (s.params.tstates = [] → s.cpu.clk + 4 ≤ t.cpu.clk ∧ t.cpu.clk ≤ s.cpu.clk + 23)) ∧
  (∀ (i : Instr) (s : State),
    ((∀ r ∈ s.params.tstates, r.row ≠ i.row) → s.tstates i = i.tstates ∧ s.tstatesTaken i = i.tstatesTaken) ∧
    ∀ r rest, s.params.tstates = r :: rest → r.row = i.row → s.tstates i = r.tstates ∧ s.tstatesTaken i = r.taken)

/-! ## Memory -/

/-- A store and the next read: a byte stored at 0x4000 or above reads back from its address; a store below 0x4000 changes no
byte that any address reads; and a store changes no byte at any other location (R83, R86, R87). -/
def Obligations.StoreThenRead : Prop :=
  ∀ (s : State) (a : Word) (v : Byte),
    (0x4000 ≤ a.toNat → (s.writeByte a v).readByte a = v) ∧
    (a.toNat < 0x4000 → ∀ p, (s.writeByte a v).readByte p = s.readByte p) ∧
    (∀ p, s.readLoc p ≠ s.writeLoc a → (s.writeByte a v).readByte p = s.readByte p) ∧
    (s.writeByte a v).cpu = s.cpu

/-- Banks (R83, R84, R92): slot 1 is bank 5 and slot 2 bank 2, whatever is selected; after RAM bank `n` of the machine is
selected, slot 3 is bank `n` and slots 0 to 2 are as before; a byte stored in slot 3 is read back there, is isolated from every
other bank, and with bank 5 or 2 selected is also read at the same offset of slot 1 or 2, whatever is selected then. -/
def Obligations.BankSelection : Prop :=
  ∀ (s : State) (n m : BitVec 3) (a p : Word) (v : Byte), n.toNat < s.params.ramBanks → m.toNat < s.params.ramBanks →
    0xC000 ≤ a.toNat → 0xC000 ≤ p.toNat →
    let u := s.selectRamBank n
    let t := u.writeByte a v
    (∀ q : Word, 0x4000 ≤ q.toNat → q.toNat < 0x8000 →
      s.readLoc q = 5 * 16384 + q.toNat % 16384 ∧ s.writeLoc q = 5 * 16384 + q.toNat % 16384) ∧
    (∀ q : Word, 0x8000 ≤ q.toNat → q.toNat < 0xC000 →
      s.readLoc q = 2 * 16384 + q.toNat % 16384 ∧ s.writeLoc q = 2 * 16384 + q.toNat % 16384) ∧
    (∀ q : Word, q.toNat < 0xC000 →
      u.readLoc q = s.readLoc q ∧ u.writeLoc q = s.writeLoc q ∧ u.execByte q = s.execByte q) ∧
    u.readLoc p = n.toNat * 16384 + p.toNat % 16384 ∧ u.writeLoc p = n.toNat * 16384 + p.toNat % 16384 ∧
    (t.selectRamBank n).readByte a = v ∧
    (n ≠ m → (t.selectRamBank m).readByte p = (s.selectRamBank m).readByte p) ∧
    (n ≠ 5 → n ≠ 2 → ∀ q : Word, q.toNat < 0xC000 → t.readByte q = u.readByte q) ∧
    (n = 5 → ∀ k : BitVec 3, (t.selectRamBank k).readByte (a - 0x8000) = v) ∧
    (n = 2 → ∀ k : BitVec 3, (t.selectRamBank k).readByte (a - 0x4000) = v)

/-- Words are little-endian, and what is pushed is what the next pop returns (R95, R96), wherever both bytes of it are
writable; the pop leaves SP as it was before the push. -/
def Obligations.WordsAndStack : Prop :=
  ∀ (s : State) (a v : Word),
    (s.readWord a).toNat = (s.readByte a).toNat + 256 * (s.readByte (a + 1)).toNat ∧
    (0x4000 ≤ a.toNat → 0x4000 ≤ (a + 1).toNat → (s.writeWord a v).readWord a = v) ∧
    (0x4000 ≤ (s.cpu.sp - 1).toNat → 0x4000 ≤ (s.cpu.sp - 2).toNat →
      (s.push16 v).popped = v ∧ (s.push16 v).popSp.cpu = s.cpu) ∧
    (s.push16 v).cpu.sp = s.cpu.sp - 2

/-! ## Interrupts and the frame -/

/-- Taking the maskable interrupt (R532 to R538): PC, past the HALT opcode if the core was halted, is pushed; both flip-flops
clear; the refresh counter counts one; the core jumps to the address of its mode, which MEMPTR gets too; 13 or 19 T-states
pass; nothing else of the core changes. -/
def Obligations.InterruptAcceptance : Prop :=
  ∀ s : State, (s.cpu.im = .im0 → s.params.intBusByte &&& 0xC7 = 0xC7) →
    ∃ t, s.acceptInt = .next t ∧
      Stores [.sp, .pc, .memptr, .iff1, .iff2, .rlo, .halted, .intBlock, .clk] s t
        (wordCells (s.cpu.sp - 2) (resumePc s)) ∧
      t.cpu.sp = s.cpu.sp - 2 ∧ t.cpu.iff1 = false ∧ t.cpu.iff2 = false ∧ t.cpu.halted = false ∧
      t.cpu.intBlock = false ∧ t.cpu.rlo = s.cpu.rlo + 1 ∧ t.cpu.memptr = t.cpu.pc ∧
      t.cpu.clk = s.cpu.clk + (if s.cpu.im = .im2 then 19 else 13) ∧
      (s.cpu.im = .im0 → t.cpu.pc = (s.params.intBusByte &&& 0x38).setWidth 16) ∧
      (s.cpu.im = .im1 → t.cpu.pc = 0x0038) ∧
      (s.cpu.im = .im2 → t.cpu.pc = t.readWord (BitVec.ofNat 16 (s.cpu.i.toNat * 256 + s.params.intBusByte.toNat)))

/-- The non-maskable interrupt (R540): as an acceptance, but IFF2 is kept, the address is 0x0066 and 11 T-states pass. -/
def Obligations.NonMaskableInterrupt : Prop :=
  ∀ s : State,
    Stores [.sp, .pc, .memptr, .iff1, .rlo, .halted, .intBlock, .clk] s s.nmi (wordCells (s.cpu.sp - 2) (resumePc s)) ∧
    s.nmi.cpu.sp = s.cpu.sp - 2 ∧ s.nmi.cpu.pc = 0x0066 ∧ s.nmi.cpu.memptr = 0x0066 ∧ s.nmi.cpu.iff1 = false ∧
    s.nmi.cpu.rlo = s.cpu.rlo + 1 ∧ s.nmi.cpu.halted = false ∧ s.nmi.cpu.intBlock = false ∧
    s.nmi.cpu.clk = s.cpu.clk + 11

/-- RETI and RETN (R451, R452): the popped word goes to PC and MEMPTR and IFF2 goes to IFF1. A RETN right after an NMI, on a
writable stack, so resumes where the NMI came in, with SP, IFF1 as IFF2 had it and IFF2 as before. -/
def Obligations.ReturnFromInterrupt : Prop :=
  (∀ (s : State) (i : Instr), (i = .reti ∨ ∃ y, i = .retn y) →
    Does i s [.pc, .memptr, .sp, .iff1] 14 fun t =>
      t.cpu.pc = s.readWord s.cpu.sp ∧ t.cpu.memptr = s.readWord s.cpu.sp ∧ t.cpu.sp = s.cpu.sp + 2 ∧
        t.cpu.iff1 = s.cpu.iff2) ∧
  (∀ (s : State) (y : BitVec 3), 0x4000 ≤ (s.cpu.sp - 1).toNat → 0x4000 ≤ (s.cpu.sp - 2).toNat →
    Runs (.retn y) s.nmi fun t =>
      t.cpu.pc = resumePc s ∧ t.cpu.sp = s.cpu.sp ∧ t.cpu.iff1 = s.cpu.iff2 ∧ t.cpu.iff2 = s.cpu.iff2)

/-- The frame boundary (R530, R531, R538, R555, R570). With the interrupt disabled it is lost, every device catches up and is
rolled over, and the clock is lowered by the budget, so the overshoot stays; with the interrupt enabled it is taken first, and
the devices catch up to the clock after its cost. Then the waiting host calls are done in call order; their queue and the
record of their answers are the model's own (notes/assumptions/26.md). A call that fails leaves the state as it was (R521,
R584). -/
def Obligations.FrameBoundary : Prop :=
  ∀ s t : State, s.frameDue = true →
    (s.cpu.iff1 = false → step s = .next (afterHostCalls (quietFrameEnd s))) ∧
    (s.cpu.iff1 = true → s.acceptInt = .next t → step s = .next (afterHostCalls (quietFrameEnd t))) ∧
    (s.pending = [] → afterHostCalls (quietFrameEnd s) = { quietFrameEnd s with answers := [] }) ∧
    (∀ (a : HostAction) (e : HostError), (s.hostAction a).1 = .failed e → (s.hostAction a).2 = s)

/-- The interrupt shadow (R46, R531): an EI or a redundant prefix that crosses the frame's end leaves the boundary not due, so
one more instruction runs first; any other instruction that crosses it leaves the boundary due. -/
def Obligations.InterruptShadow : Prop :=
  ∀ (s : State) (i : Instr) (t : State), s.frameDue = false → decode s.fetch.1 = .ok i → step s = .next t →
    s.params.eiShadow = true → (s.params.frameBudget : Int) ≤ t.cpu.clk →
    (t.frameDue = false ↔ core i = .ei ∨ ∃ f, i = .ddRedundant f ∨ i = .fdRedundant f)

/-- HALT spins (R45, R326, R577): a step at a HALT opcode while no frame boundary is due leaves PC at it, with `halted` set,
at the cost of HALT, 4 T-states in the table; every byte of memory and the other registers but R are as before. -/
def Obligations.HaltSpins : Prop :=
  ∀ s : State, s.frameDue = false → decode s.fetch.1 = .ok .halt → s.fetch.2 = s →
    ∃ t, step s = .next t ∧ t.cpu.pc = s.cpu.pc ∧ t.cpu.halted = true ∧ t.cpu.clk = s.cpu.clk + s.tstates .halt ∧
      Instr.halt.tstates = 4 ∧ t.cpu.rlo = s.cpu.rlo + 1 ∧ Only [.halted, .intBlock, .rlo, .clk] s t

/-! ## 8-bit loads (spec/40_load8.md) -/

/-- Loads into an 8-bit register (R200 to R202, R205, R208 to R210): the register gets the source, MEMPTR what the rule says,
and nothing else changes but the clock. -/
def Obligations.LoadRegister : Prop :=
  ∀ (s : State) (r q : Reg8) (n : Byte) (nn : Word),
    let loads (i : Instr) (r : Reg8) (v : Byte) (m : Word) (cost : Nat) : Prop :=
      Does i s [regCell r, .memptr] cost fun t => t.reg8 r = v ∧ t.cpu.memptr = m
    loads (.ldRR r q) r (s.reg8 q) s.cpu.memptr 4 ∧
    loads (.ldRN r n) r n s.cpu.memptr 7 ∧
    loads (.ldRMHl r) r (s.readByte s.hl) s.cpu.memptr 7 ∧
    loads (.ldRMIxd r n) r (s.readByte (plusSigned s.cpu.ix n)) (plusSigned s.cpu.ix n) 19 ∧
    loads (.ldRMIyd r n) r (s.readByte (plusSigned s.cpu.iy n)) (plusSigned s.cpu.iy n) 19 ∧
    loads .ldAMBc .a (s.readByte s.bc) (s.bc + 1) 7 ∧
    loads .ldAMDe .a (s.readByte s.de) (s.de + 1) 7 ∧
    loads (.ldAMNn nn) .a (s.readByte nn) (nn + 1) 13

/-- Loads with a half of an index register (R218, R219): the named register or half gets the source, and the other half and
every other register keep their value. -/
def Obligations.LoadIndexHalf : Prop :=
  ∀ (s : State) (k r : HReg) (h : Half) (n : Byte),
    let moves (x : IdxReg) (i : Instr) : Prop :=
      Does i s [hregCell x k] 8 fun t => t.hreg x k = s.hreg x r ∧ ∀ q, q ≠ k → t.hreg x q = s.hreg x q
    let sets (x : IdxReg) (i : Instr) : Prop :=
      Does i s [idxCell x] 11 fun t => t.half x h = n ∧ ∀ g, g ≠ h → t.half x g = s.half x g
    moves .ix (.ldRIxh k r) ∧ moves .iy (.ldRIyh k r) ∧ sets .ix (.ldIxhN h n) ∧ sets .iy (.ldIyhN h n)

/-- Stores of a byte (R203, R204, R206, R207, R211 to R213): the byte goes to the address, MEMPTR gets what the rule says, and
every other byte and register is kept. -/
def Obligations.StoreByte : Prop :=
  ∀ (s : State) (r : Reg8) (d n : Byte) (nn : Word),
    let stores (i : Instr) (a : Word) (v : Byte) (m : Word) (cost : Nat) : Prop :=
      DoesStore i s [.memptr] cost [(a, v)] fun t => t.cpu.memptr = m
    let aAbove (a : Word) : Word := BitVec.ofNat 16 (s.cpu.a.toNat * 256 + (a.toNat + 1) % 256)
    stores (.ldMHlR r) s.hl (s.reg8 r) s.cpu.memptr 7 ∧
    stores (.ldMHlN n) s.hl n s.cpu.memptr 10 ∧
    stores (.ldMIxdR d r) (plusSigned s.cpu.ix d) (s.reg8 r) (plusSigned s.cpu.ix d) 19 ∧
    stores (.ldMIydR d r) (plusSigned s.cpu.iy d) (s.reg8 r) (plusSigned s.cpu.iy d) 19 ∧
    stores (.ldMIxdN d n) (plusSigned s.cpu.ix d) n (plusSigned s.cpu.ix d) 19 ∧
    stores (.ldMIydN d n) (plusSigned s.cpu.iy d) n (plusSigned s.cpu.iy d) 19 ∧
    stores .ldMBcA s.bc s.cpu.a (aAbove s.bc) 7 ∧
    stores .ldMDeA s.de s.cpu.a (aAbove s.de) 7 ∧
    stores (.ldMNnA nn) nn s.cpu.a (aAbove nn) 13

/-- The loads of I and R (R214 to R217): LD A,I and LD A,R copy IFF2 to PV, take Y and X from MEMPTR or from the result as the
machine's parameter says, and keep C; LD I,A and LD R,A set the register, bit 7 of R included, and no flag. -/
def Obligations.LoadInterruptAndRefresh : Prop :=
  ∀ s : State,
    let reads (i : Instr) (v : Byte) : Prop :=
      Does i s [.a, .f] 9 fun t =>
        t.cpu.a = v ∧
          t.cpu.f =
            match s.params.xySource with
            | .memptrHigh => refLdAI v s.cpu.f s.cpu.iff2 (bit s.cpu.memptr.toNat 13) (bit s.cpu.memptr.toNat 11)
            | .result => refLdAI v s.cpu.f s.cpu.iff2 (bit v.toNat 5) (bit v.toNat 3)
    reads .ldAI s.cpu.i ∧
    reads .ldAR s.rReg ∧
    (Does .ldIA s [.i] 9 fun t => t.cpu.i = s.cpu.a) ∧
    (Does .ldRA s [.rhi, .rlo] 9 fun t => t.rReg = s.cpu.a)

/-! ## 16-bit loads (spec/41_load16.md) -/

/-- Loads of a pair, an index register or SP, and stores of a word (R230 to R239): the low byte of a memory operand is at its
address, the high byte at the next; MEMPTR is the address plus 1 and is kept where there is no memory operand. -/
def Obligations.WordLoads : Prop :=
  ∀ (s : State) (p : RegPair) (nn : Word),
    let at16 (a : Word) : Word := BitVec.ofNat 16 ((s.readByte a).toNat + 256 * (s.readByte (a + 1)).toNat)
    let stores (i : Instr) (v : Word) (cost : Nat) : Prop :=
      DoesStore i s [.memptr] cost (wordCells nn v) fun t => t.cpu.memptr = nn + 1
    (Does (.ldRrNn p nn) s (pairCells p) 10 fun t => t.pair p = nn) ∧
    (Does (.ldHlMNn nn) s [.h, .l, .memptr] 16 fun t => t.hl = at16 nn ∧ t.cpu.memptr = nn + 1) ∧
    (Does (.ldRrMNn p nn) s (.memptr :: pairCells p) 20 fun t => t.pair p = at16 nn ∧ t.cpu.memptr = nn + 1) ∧
    (Does (.ldIxNn nn) s [.ix] 14 fun t => t.cpu.ix = nn) ∧
    (Does (.ldIyNn nn) s [.iy] 14 fun t => t.cpu.iy = nn) ∧
    (Does (.ldIxMNn nn) s [.ix, .memptr] 20 fun t => t.cpu.ix = at16 nn ∧ t.cpu.memptr = nn + 1) ∧
    (Does (.ldIyMNn nn) s [.iy, .memptr] 20 fun t => t.cpu.iy = at16 nn ∧ t.cpu.memptr = nn + 1) ∧
    (Does .ldSpHl s [.sp] 6 fun t => t.cpu.sp = s.hl) ∧
    (Does .ldSpIx s [.sp] 10 fun t => t.cpu.sp = s.cpu.ix) ∧
    (Does .ldSpIy s [.sp] 10 fun t => t.cpu.sp = s.cpu.iy) ∧
    stores (.ldMNnHl nn) s.hl 16 ∧ stores (.ldMNnRr p nn) (s.pair p) 20 ∧ stores (.ldMNnIx nn) s.cpu.ix 20 ∧
    stores (.ldMNnIy nn) s.cpu.iy 20

/-- PUSH and POP (R240 to R243): PUSH stores the word at SP - 2 and lowers SP by 2; POP reads the word at SP and raises SP by
2; neither changes a flag, but that POP AF loads F. -/
def Obligations.PushAndPop : Prop :=
  ∀ (s : State) (q : StackPair),
    let pushes (i : Instr) (v : Word) (cost : Nat) : Prop :=
      DoesStore i s [.sp] cost (wordCells (s.cpu.sp - 2) v) fun t => t.cpu.sp = s.cpu.sp - 2
    let top : Word := BitVec.ofNat 16 ((s.readByte s.cpu.sp).toNat + 256 * (s.readByte (s.cpu.sp + 1)).toNat)
    pushes (.pushQq q) (s.stackPair q) 11 ∧ pushes .pushIx s.cpu.ix 15 ∧ pushes .pushIy s.cpu.iy 15 ∧
    (Does (.popQq q) s (.sp :: stackCells q) 10 fun t => t.stackPair q = top ∧ t.cpu.sp = s.cpu.sp + 2) ∧
    (Does .popIx s [.sp, .ix] 14 fun t => t.cpu.ix = top ∧ t.cpu.sp = s.cpu.sp + 2) ∧
    (Does .popIy s [.sp, .iy] 14 fun t => t.cpu.iy = top ∧ t.cpu.sp = s.cpu.sp + 2)

/-! ## Exchanges and block instructions (spec/42_exchange_block.md) -/

/-- EX DE,HL, EX AF,AF' and EXX (R260 to R262) exchange the registers they name and nothing else. -/
def Obligations.ExchangeRegisters : Prop :=
  ∀ s : State,
    (Does .exDeHl s [.d, .e, .h, .l] 4 fun t => t.de = s.hl ∧ t.hl = s.de) ∧
    (Does .exAfAf s [.a, .f, .a', .f'] 4 fun t =>
      t.cpu.a = s.cpu.a' ∧ t.cpu.f = s.cpu.f' ∧ t.cpu.a' = s.cpu.a ∧ t.cpu.f' = s.cpu.f) ∧
    (Does .exx s [.b, .c, .d, .e, .h, .l, .b', .c', .d', .e', .h', .l'] 4 fun t =>
      t.cpu.b = s.cpu.b' ∧ t.cpu.c = s.cpu.c' ∧ t.cpu.d = s.cpu.d' ∧ t.cpu.e = s.cpu.e' ∧ t.cpu.h = s.cpu.h' ∧
        t.cpu.l = s.cpu.l' ∧ t.cpu.b' = s.cpu.b ∧ t.cpu.c' = s.cpu.c ∧ t.cpu.d' = s.cpu.d ∧ t.cpu.e' = s.cpu.e ∧
        t.cpu.h' = s.cpu.h ∧ t.cpu.l' = s.cpu.l)

/-- EX (SP),HL and its index forms (R263, R264): the register and the word at SP trade places, MEMPTR gets the new register
value, SP stays. -/
def Obligations.ExchangeStackTop : Prop :=
  ∀ s : State,
    (DoesStore .exMSpHl s [.h, .l, .memptr] 19 (wordCells s.cpu.sp s.hl) fun t =>
      t.hl = s.readWord s.cpu.sp ∧ t.cpu.memptr = s.readWord s.cpu.sp) ∧
    (DoesStore .exMSpIx s [.ix, .memptr] 23 (wordCells s.cpu.sp s.cpu.ix) fun t =>
      t.cpu.ix = s.readWord s.cpu.sp ∧ t.cpu.memptr = s.readWord s.cpu.sp) ∧
    (DoesStore .exMSpIy s [.iy, .memptr] 23 (wordCells s.cpu.sp s.cpu.iy) fun t =>
      t.cpu.iy = s.readWord s.cpu.sp ∧ t.cpu.memptr = s.readWord s.cpu.sp)

/-- Block transfers (R265, R266, R270 to R272): the byte at HL goes to DE, both pointers move one step, BC counts down, and
the flags are the rule's; a repeating form whose BC is not 0 goes back to its own address, with MEMPTR one past it, at its
`tstates_taken`. -/
def Obligations.BlockTransfer : Prop :=
  ∀ s : State,
    let v := s.readByte s.hl
    let moves (i : Instr) (step : Word) (repeats : Bool) : Prop :=
      let again := repeats && s.bc != 1
      DoesStoreAs again i s ([.b, .c, .d, .e, .h, .l, .f] ++ if again then [.pc, .memptr] else [])
        (if again then 21 else 16) [(s.de, v)] fun t =>
          t.bc = s.bc - 1 ∧ t.de = s.de + step ∧ t.hl = s.hl + step ∧
            t.cpu.f = refLdBlock s.cpu.a v s.cpu.f (s.bc != 1) ∧
            (again → t.cpu.pc = s.cpu.pc - 2 ∧ t.cpu.memptr = s.cpu.pc - 1)
    moves .ldi 1 false ∧ moves .ldd (-1) false ∧ moves .ldir 1 true ∧ moves .lddr (-1) true

/-- Block searches (R267, R268, R270, R273, R274): A is compared with the byte at HL, HL moves one step, BC counts down and
MEMPTR moves with HL; a repeating form goes back while BC is not 0 and no match was found. -/
def Obligations.BlockSearch : Prop :=
  ∀ s : State,
    let v := s.readByte s.hl
    let searches (i : Instr) (step : Word) (repeats : Bool) : Prop :=
      let again := repeats && s.bc != 1 && s.cpu.a != v
      DoesAs again i s ([.b, .c, .h, .l, .f, .memptr] ++ repeatCells again) (if again then 21 else 16) fun t =>
        t.bc = s.bc - 1 ∧ t.hl = s.hl + step ∧ t.cpu.f = refCpBlock s.cpu.a v s.cpu.f (s.bc != 1) ∧
          (again → t.cpu.pc = s.cpu.pc - 2) ∧
          t.cpu.memptr = if again then s.cpu.pc - 1 else s.cpu.memptr + step
    searches .cpi 1 false ∧ searches .cpd (-1) false ∧ searches .cpir 1 true ∧ searches .cpdr (-1) true

/-! ## 8-bit arithmetic and logic (spec/43_alu8.md) -/

/-- ADD and ADC in every operand form (R290 to R292): A is the sum modulo 256 and the flags are the rule's integer formulas,
overflow being the signed sum's. -/
def Obligations.AddWithFlags : Prop :=
  ∀ (s : State) (o : Src),
    let adds (op : AluOp) (c : Bool) : Prop :=
      Does (aluInstr op o) s [.a, .f, .memptr] o.cost fun t =>
        (t.cpu.a, t.cpu.f) = refAdd s.cpu.a (o.value s) c ∧ t.cpu.memptr = o.memptr s
    adds .add false ∧ adds .adc (bit s.cpu.f.toNat 0)

/-- SUB, SBC and CP in every operand form (R290, R293, R294, R298): as for the sum; CP keeps A and takes Y and X from its
operand. -/
def Obligations.SubtractWithFlags : Prop :=
  ∀ (s : State) (o : Src),
    let subtracts (op : AluOp) (c : Bool) : Prop :=
      Does (aluInstr op o) s [.a, .f, .memptr] o.cost fun t =>
        (t.cpu.a, t.cpu.f) = refSub s.cpu.a (o.value s) c ∧ t.cpu.memptr = o.memptr s
    subtracts .sub false ∧ subtracts .sbc (bit s.cpu.f.toNat 0) ∧
    Does (aluInstr .cp o) s [.f, .memptr] o.cost fun t =>
      t.cpu.f = refCp s.cpu.a (o.value s) ∧ t.cpu.memptr = o.memptr s

/-- AND, XOR and OR in every operand form (R290, R295 to R297), with parity in PV. -/
def Obligations.LogicWithFlags : Prop :=
  ∀ (s : State) (o : Src),
    let combines (op : AluOp) (r : Byte) (h : Bool) : Prop :=
      Does (aluInstr op o) s [.a, .f, .memptr] o.cost fun t =>
        (t.cpu.a, t.cpu.f) = refLogic r h ∧ t.cpu.memptr = o.memptr s
    combines .and (s.cpu.a &&& o.value s) true ∧ combines .xor (s.cpu.a ^^^ o.value s) false ∧
    combines .or (s.cpu.a ||| o.value s) false

/-- INC and DEC of a register or an index half (R300, R303, R304, R307): C is kept and PV is overflow. -/
def Obligations.IncDecRegister : Prop :=
  ∀ (s : State) (r : Reg8) (h : Half),
    let c := bit s.cpu.f.toNat 0
    (Does (.incR r) s [regCell r, .f] 4 fun t => (t.reg8 r, t.cpu.f) = refInc (s.reg8 r) c) ∧
    (Does (.decR r) s [regCell r, .f] 4 fun t => (t.reg8 r, t.cpu.f) = refDec (s.reg8 r) c) ∧
    (Does (.incIxh h) s [.ix, .f] 8 fun t =>
      (t.half .ix h, t.cpu.f) = refInc (s.half .ix h) c ∧ ∀ k, k ≠ h → t.half .ix k = s.half .ix k) ∧
    (Does (.decIxh h) s [.ix, .f] 8 fun t =>
      (t.half .ix h, t.cpu.f) = refDec (s.half .ix h) c ∧ ∀ k, k ≠ h → t.half .ix k = s.half .ix k) ∧
    (Does (.incIyh h) s [.iy, .f] 8 fun t =>
      (t.half .iy h, t.cpu.f) = refInc (s.half .iy h) c ∧ ∀ k, k ≠ h → t.half .iy k = s.half .iy k) ∧
    (Does (.decIyh h) s [.iy, .f] 8 fun t =>
      (t.half .iy h, t.cpu.f) = refDec (s.half .iy h) c ∧ ∀ k, k ≠ h → t.half .iy k = s.half .iy k)

/-- INC and DEC of a byte of memory (R301, R302, R305, R306): the new byte goes to the operand's address. -/
def Obligations.IncDecMemory : Prop :=
  ∀ (s : State) (d : Byte),
    let c := bit s.cpu.f.toNat 0
    let changes (i : Instr) (a : Word) (m : Word) (cost : Nat) (x : Byte × Byte) : Prop :=
      DoesStore i s [.f, .memptr] cost [(a, x.1)] fun t => t.cpu.f = x.2 ∧ t.cpu.memptr = m
    let x := plusSigned s.cpu.ix d
    let y := plusSigned s.cpu.iy d
    changes .incMHl s.hl s.cpu.memptr 11 (refInc (s.readByte s.hl) c) ∧
    changes .decMHl s.hl s.cpu.memptr 11 (refDec (s.readByte s.hl) c) ∧
    changes (.incMIxd d) x x 23 (refInc (s.readByte x) c) ∧
    changes (.decMIxd d) x x 23 (refDec (s.readByte x) c) ∧
    changes (.incMIyd d) y y 23 (refInc (s.readByte y) c) ∧
    changes (.decMIyd d) y y 23 (refDec (s.readByte y) c)

/-! ## General control (spec/44_general_control.md) -/

/-- Decimal arithmetic: after ADD or ADC of two packed decimal bytes DAA leaves the packed decimal sum and its carry, and after
SUB or SBC the packed decimal difference and its borrow (R291 to R294 with R320). -/
def Obligations.DecimalArithmetic : Prop :=
  ∀ x y : Nat, x < 100 → y < 100 → ∀ c : Bool,
    let sum := add8 (bcd x) (bcd y) c
    let dif := sub8 (bcd x) (bcd y) c
    (daa8 sum.r sum.f).r = bcd ((x + y + c.toNat) % 100) ∧
    flagC (daa8 sum.r sum.f).f = decide (100 ≤ x + y + c.toNat) ∧
    (daa8 dif.r dif.f).r = bcd ((x + 100 - y - c.toNat) % 100) ∧
    flagC (daa8 dif.r dif.f).f = decide (x < y + c.toNat)

/-- DAA, CPL, NEG, CCF and SCF (R320 to R324), for every A and every F. -/
def Obligations.AccumulatorControl : Prop :=
  ∀ (s : State) (y : BitVec 3),
    let f := s.cpu.f.toNat
    (Does .daa s [.a, .f] 4 fun t => (t.cpu.a, t.cpu.f) = refDaa s.cpu.a s.cpu.f) ∧
    (Does .cpl s [.a, .f] 4 fun t =>
      t.cpu.a.toNat = 255 - s.cpu.a.toNat ∧
        t.cpu.f = flagByte (bit f 7) (bit f 6) (bit t.cpu.a.toNat 5) true (bit t.cpu.a.toNat 3) (bit f 2) true (bit f 0)) ∧
    (Does (.neg y) s [.a, .f] 8 fun t => (t.cpu.a, t.cpu.f) = refSub 0 s.cpu.a false) ∧
    (Does .ccf s [.f] 4 fun t =>
      t.cpu.f =
        flagByte (bit f 7) (bit f 6) (bit s.cpu.a.toNat 5) (bit f 0) (bit s.cpu.a.toNat 3) (bit f 2) false (!bit f 0)) ∧
    (Does .scf s [.f] 4 fun t =>
      t.cpu.f =
        flagByte (bit f 7) (bit f 6) (bit s.cpu.a.toNat 5) false (bit s.cpu.a.toNat 3) (bit f 2) false true)

/-- NOP, the ED no-op, HALT, DI, EI, IM and the redundant prefixes (R325 to R334): what each sets, and that it sets nothing
else. -/
def Obligations.CpuControl : Prop :=
  ∀ (s : State) (y : BitVec 3) (op : Byte) (f : PrefixByte),
    (Does .nop s [] 4 fun _ => True) ∧
    (Does (.nopStar op) s [] 8 fun _ => True) ∧
    (Does .halt s [.pc, .halted] 4 fun t => t.cpu.pc = s.cpu.pc - 1 ∧ t.cpu.halted = true) ∧
    (Does .di s [.iff1, .iff2] 4 fun t => t.cpu.iff1 = false ∧ t.cpu.iff2 = false) ∧
    (Does .ei s [.iff1, .iff2, .intBlock] 4 fun t =>
      t.cpu.iff1 = true ∧ t.cpu.iff2 = true ∧ t.cpu.intBlock = true) ∧
    (Does (.im0 y) s [.im] 8 fun t => t.cpu.im = .im0) ∧
    (Does (.im1 y) s [.im] 8 fun t => t.cpu.im = .im1) ∧
    (Does (.im2 y) s [.im] 8 fun t => t.cpu.im = .im2) ∧
    (Does (.ddRedundant f) s [.intBlock] 4 fun t => t.cpu.intBlock = true) ∧
    (Does (.fdRedundant f) s [.intBlock] 4 fun t => t.cpu.intBlock = true)

/-- The escapes (R151): a DD or FD before an opcode it does not change does what the opcode does, at the prefix's cost more, 4
T-states in the table, and always completes. -/
def Obligations.Escapes : Prop :=
  ∀ (s : State) (i : Instr), i.escapable = true →
    ∃ t, exec i s = .next t ∧
      exec (.ddEscape i) s = .next { t with cpu := { t.cpu with clk := t.cpu.clk + s.tstates (.ddEscape i) } } ∧
      exec (.fdEscape i) s = .next { t with cpu := { t.cpu with clk := t.cpu.clk + s.tstates (.fdEscape i) } } ∧
      (Instr.ddEscape i).tstates = 4 ∧ (Instr.fdEscape i).tstates = 4

/-! ## 16-bit arithmetic (spec/45_alu16.md) -/

/-- ADD, ADC and SBC on 16 bits (R350 to R353): the result modulo 65536, the flags of the rule, and MEMPTR the old destination
plus 1. -/
def Obligations.WordArithmetic : Prop :=
  ∀ (s : State) (p : RegPair) (q : IdxPair),
    let c := bit s.cpu.f.toNat 0
    (Does (.addHlRr p) s [.h, .l, .f, .memptr] 11 fun t =>
      (t.hl, t.cpu.f) = refAdd16 s.hl (s.pair p) s.cpu.f ∧ t.cpu.memptr = s.hl + 1) ∧
    (Does (.adcHlRr p) s [.h, .l, .f, .memptr] 15 fun t =>
      (t.hl, t.cpu.f) = refAdc16 s.hl (s.pair p) c ∧ t.cpu.memptr = s.hl + 1) ∧
    (Does (.sbcHlRr p) s [.h, .l, .f, .memptr] 15 fun t =>
      (t.hl, t.cpu.f) = refSbc16 s.hl (s.pair p) c ∧ t.cpu.memptr = s.hl + 1) ∧
    (Does (.addIxRr q) s [.ix, .f, .memptr] 15 fun t =>
      (t.cpu.ix, t.cpu.f) = refAdd16 s.cpu.ix (s.idxPair .ix q) s.cpu.f ∧ t.cpu.memptr = s.cpu.ix + 1) ∧
    (Does (.addIyRr q) s [.iy, .f, .memptr] 15 fun t =>
      (t.cpu.iy, t.cpu.f) = refAdd16 s.cpu.iy (s.idxPair .iy q) s.cpu.f ∧ t.cpu.memptr = s.cpu.iy + 1)

/-- INC and DEC on 16 bits (R354 to R357) change no flag and no MEMPTR. -/
def Obligations.WordIncDec : Prop :=
  ∀ (s : State) (p : RegPair),
    (Does (.incRr p) s (pairCells p) 6 fun t => (t.pair p).toNat = ((s.pair p).toNat + 1) % 65536) ∧
    (Does (.decRr p) s (pairCells p) 6 fun t => (t.pair p).toNat = ((s.pair p).toNat + 65535) % 65536) ∧
    (Does .incIx s [.ix] 10 fun t => t.cpu.ix.toNat = (s.cpu.ix.toNat + 1) % 65536) ∧
    (Does .decIx s [.ix] 10 fun t => t.cpu.ix.toNat = (s.cpu.ix.toNat + 65535) % 65536) ∧
    (Does .incIy s [.iy] 10 fun t => t.cpu.iy.toNat = (s.cpu.iy.toNat + 1) % 65536) ∧
    (Does .decIy s [.iy] 10 fun t => t.cpu.iy.toNat = (s.cpu.iy.toNat + 65535) % 65536)

/-! ## Rotates and shifts (spec/46_rotate_shift.md) -/

/-- Rotates and shifts of the accumulator and of a register (R380 to R391): the number that results, and C the bit shifted
out; the accumulator forms keep S, Z and PV. -/
def Obligations.RotateRegister : Prop :=
  ∀ (s : State) (o : Rot) (r : Reg8),
    let turnsA (i : Instr) (o : Rot) : Prop :=
      Does i s [.a, .f] 4 fun t => (t.cpu.a, t.cpu.f) = refRotA o s.cpu.a s.cpu.f
    turnsA .rlca .rlc ∧ turnsA .rrca .rrc ∧ turnsA .rla .rl ∧ turnsA .rra .rr ∧
    Does (rotRInstr o r) s [regCell r, .f] 8 fun t => (t.reg8 r, t.cpu.f) = refRot o (s.reg8 r) s.cpu.f

/-- Rotates and shifts of memory (R384 to R393): the result goes to the operand's address and, in the undocumented forms, to a
register too; MEMPTR is the effective address of an indexed operand. -/
def Obligations.RotateMemory : Prop :=
  ∀ (s : State) (o : Rot) (x : IdxReg) (d : Byte) (r : Reg8),
    let ea := plusSigned (s.xy x) d
    let atHl := refRot o (s.readByte s.hl) s.cpu.f
    let atEa := refRot o (s.readByte ea) s.cpu.f
    (DoesStore (rotHlInstr o) s [.f] 15 [(s.hl, atHl.1)] fun t => t.cpu.f = atHl.2) ∧
    (DoesStore (rotIdxInstr o x d) s [.f, .memptr] 23 [(ea, atEa.1)] fun t =>
      t.cpu.f = atEa.2 ∧ t.cpu.memptr = ea) ∧
    (DoesStore (x.sel (.rotMIxdR o d r) (.rotMIydR o d r)) s [.f, .memptr, regCell r] 23 [(ea, atEa.1)] fun t =>
      t.cpu.f = atEa.2 ∧ t.cpu.memptr = ea ∧ t.reg8 r = atEa.1)

/-- RLD and RRD (R394, R395) turn the three digits of A's low half and the byte at HL. -/
def Obligations.RotateDigits : Prop :=
  ∀ s : State,
    let a := s.cpu.a.toNat
    let m := (s.readByte s.hl).toNat
    let turns (i : Instr) (mem acc : Nat) : Prop :=
      DoesStore i s [.a, .f, .memptr] 18 [(s.hl, BitVec.ofNat 8 mem)] fun t =>
        t.cpu.a = BitVec.ofNat 8 acc ∧ t.cpu.f = refDigit (BitVec.ofNat 8 acc) s.cpu.f ∧ t.cpu.memptr = s.hl + 1
    turns .rld (m % 16 * 16 + a % 16) (a / 16 * 16 + m / 16) ∧ turns .rrd (a % 16 * 16 + m / 16) (a / 16 * 16 + m % 16)

/-! ## Bits (spec/47_bit.md) -/

/-- BIT (R410, R411, R413): Z and PV are the complement of the bit; Y and X come from the register, from MEMPTR for (HL), and
from the effective address for an indexed operand; C is kept. -/
def Obligations.BitTest : Prop :=
  ∀ (s : State) (b z : BitVec 3) (r : Reg8) (x : IdxReg) (d : Byte),
    let v := s.reg8 r
    let ea := plusSigned (s.xy x) d
    (Does (.bitBR b r) s [.f] 8 fun t => t.cpu.f = refBit b v s.cpu.f (bit v.toNat 5) (bit v.toNat 3)) ∧
    (Does (.bitBMHl b) s [.f] 12 fun t =>
      t.cpu.f = refBit b (s.readByte s.hl) s.cpu.f (bit s.cpu.memptr.toNat 13) (bit s.cpu.memptr.toNat 11)) ∧
    (Does (x.sel (.bitBMIxd b d z) (.bitBMIyd b d z)) s [.f, .memptr] 20 fun t =>
      t.cpu.f = refBit b (s.readByte ea) s.cpu.f (bit ea.toNat 13) (bit ea.toNat 11) ∧ t.cpu.memptr = ea)

/-- RES and SET (R412, R414, R415, R417, R418): one bit of the register or of the byte in memory changes, the undocumented forms
copy the byte to a register, and no flag changes. -/
def Obligations.BitChange : Prop :=
  ∀ (s : State) (b : BitVec 3) (r : Reg8) (x : IdxReg) (d : Byte),
    let ea := plusSigned (s.xy x) d
    let changes (i : Instr) (ws : List Cell) (cost : Nat) (a : Word) (on : Bool) (P : Byte → State → Prop) : Prop :=
      ∃ v, BitSetTo b on (s.readByte a) v ∧ DoesStore i s ws cost [(a, v)] (P v)
    let ended (_ : Byte) (t : State) : Prop := t.cpu.memptr = ea
    let copied (v : Byte) (t : State) : Prop := t.cpu.memptr = ea ∧ t.reg8 r = v
    (Does (.resBR b r) s [regCell r] 8 fun t => BitSetTo b false (s.reg8 r) (t.reg8 r)) ∧
    (Does (.setBR b r) s [regCell r] 8 fun t => BitSetTo b true (s.reg8 r) (t.reg8 r)) ∧
    changes (.resBMHl b) [] 15 s.hl false (fun _ _ => True) ∧
    changes (.setBMHl b) [] 15 s.hl true (fun _ _ => True) ∧
    changes (x.sel (.resBMIxd b d) (.resBMIyd b d)) [.memptr] 23 ea false ended ∧
    changes (x.sel (.setBMIxd b d) (.setBMIyd b d)) [.memptr] 23 ea true ended ∧
    changes (x.sel (.resBMIxdR b d r) (.resBMIydR b d r)) [.memptr, regCell r] 23 ea false copied ∧
    changes (x.sel (.setBMIxdR b d r) (.setBMIydR b d r)) [.memptr, regCell r] 23 ea true copied

/-! ## Jumps, calls and returns (spec/48_jump_call_return.md) -/

/-- Jumps (R440 to R446): the target, MEMPTR where the rule sets it, and the cost of each outcome; no flag changes. PC is past
the instruction when the offset is added. -/
def Obligations.Jumps : Prop :=
  ∀ (s : State) (cc : Cond) (jc : JrCond) (e : Byte) (nn : Word),
    let target := plusSigned s.cpu.pc e
    (Does (.jpNn nn) s [.pc, .memptr] 10 fun t => t.cpu.pc = nn ∧ t.cpu.memptr = nn) ∧
    (Does (.jpCcNn cc nn) s [.pc, .memptr] 10 fun t =>
      t.cpu.pc = (if refCond cc s.cpu.f then nn else s.cpu.pc) ∧ t.cpu.memptr = nn) ∧
    (Does (.jr e) s [.pc, .memptr] 12 fun t => t.cpu.pc = target ∧ t.cpu.memptr = target) ∧
    (if refCond jc.toCond s.cpu.f then
      DoesAs true (.jrCc jc e) s [.pc, .memptr] 12 fun t => t.cpu.pc = target ∧ t.cpu.memptr = target
    else Does (.jrCc jc e) s [] 7 fun _ => True) ∧
    (Does .jpMHl s [.pc] 4 fun t => t.cpu.pc = s.hl) ∧
    (Does .jpMIx s [.pc] 8 fun t => t.cpu.pc = s.cpu.ix) ∧
    (Does .jpMIy s [.pc] 8 fun t => t.cpu.pc = s.cpu.iy) ∧
    (if s.cpu.b = 1 then Does (.djnz e) s [.b] 8 fun t => t.cpu.b = 0
    else DoesAs true (.djnz e) s [.b, .pc, .memptr] 13 fun t =>
      t.cpu.b = s.cpu.b - 1 ∧ t.cpu.pc = target ∧ t.cpu.memptr = target)

/-- Calls and returns (R447 to R450, R453): a call pushes the address after the instruction, and PC and MEMPTR are the target;
a return takes the word at SP to PC and MEMPTR, and SP rises by 2; a CALL whose condition fails sets MEMPTR only, a RET whose
condition fails does nothing. -/
def Obligations.CallsAndReturns : Prop :=
  ∀ (s : State) (cc : Cond) (nn : Word) (y : BitVec 3),
    let calls (taken : Bool) (i : Instr) (target : Word) (cost : Nat) : Prop :=
      DoesStoreAs taken i s [.pc, .memptr, .sp] cost (wordCells (s.cpu.sp - 2) s.cpu.pc) fun t =>
        t.cpu.pc = target ∧ t.cpu.memptr = target ∧ t.cpu.sp = s.cpu.sp - 2
    let returns (taken : Bool) (i : Instr) (cost : Nat) : Prop :=
      DoesAs taken i s [.pc, .memptr, .sp] cost fun t =>
        t.cpu.pc = s.readWord s.cpu.sp ∧ t.cpu.memptr = s.readWord s.cpu.sp ∧ t.cpu.sp = s.cpu.sp + 2
    calls false (.callNn nn) nn 17 ∧
    (if refCond cc s.cpu.f then calls true (.callCcNn cc nn) nn 17
    else Does (.callCcNn cc nn) s [.memptr] 10 fun t => t.cpu.memptr = nn) ∧
    calls false (.rstP y) (BitVec.ofNat 16 (y.toNat * 8)) 11 ∧
    returns false .ret 10 ∧
    (if refCond cc s.cpu.f then returns true (.retCc cc) 11 else Does (.retCc cc) s [] 5 fun _ => True)

/-! ## Input and output (spec/49_io.md) and the devices (spec/60_exceptions.md) -/

/-- IN and OUT of a byte (R480 to R482, R487 to R489): the port is A above n, or BC; an input goes to the register, and
IN r,(C) and IN F,(C) set flags from it; an output changes no flag. -/
def Obligations.InputOutputByte : Prop :=
  ∀ (s : State) (n : Byte) (r : Reg8),
    let p : Word := BitVec.ofNat 16 (s.cpu.a.toNat * 256 + n.toNat)
    (DoesIn (.inAMN n) s p [.a, .memptr] 11 fun t => t.cpu.a = s.portValue p ∧ t.cpu.memptr = p + 1) ∧
    (DoesIn (.inRMC r) s s.bc [regCell r, .f, .memptr] 12 fun t =>
      t.reg8 r = s.portValue s.bc ∧ t.cpu.f = refIn (s.portValue s.bc) s.cpu.f ∧ t.cpu.memptr = s.bc + 1) ∧
    (DoesIn .inFMC s s.bc [.f, .memptr] 12 fun t =>
      t.cpu.f = refIn (s.portValue s.bc) s.cpu.f ∧ t.cpu.memptr = s.bc + 1) ∧
    (DoesOut (.outMNA n) s p s.cpu.a [.memptr] 11 fun t =>
      t.cpu.memptr = BitVec.ofNat 16 (s.cpu.a.toNat * 256 + (n.toNat + 1) % 256)) ∧
    (DoesOut (.outMCR r) s s.bc (s.reg8 r) [.memptr] 12 fun t => t.cpu.memptr = s.bc + 1) ∧
    (DoesOut .outMC0 s s.bc s.params.outCZero [.memptr] 12 fun t => t.cpu.memptr = s.bc + 1)

/-- Block input and output (R270, R483 to R486, R490 to R494): B counts down; an input reads port BC before the count and
stores at HL, an output writes port BC after it; HL moves one step; a repeating form goes back while B is not 0, and MEMPTR
is the single form's. -/
def Obligations.BlockInputOutput : Prop :=
  ∀ s : State,
    let b := s.cpu.b - 1
    let c := s.cpu.c.toNat
    let inputs (i : Instr) (up repeats : Bool) : Prop :=
      let again := repeats && s.cpu.b != 1
      let v := s.portValue s.bc
      let u := s.portRead s.bc
      ∃ t, exec i s = .next t ∧ Costs i again (if again then 21 else 16) s t ∧
        Stores ([.b, .h, .l, .f, .memptr, .clk] ++ repeatCells again) u t [(s.hl, v)] ∧
        t.cpu.b = b ∧ t.hl = (if up then s.hl + 1 else s.hl - 1) ∧
        t.cpu.f = refIoBlock v b (v.toNat + (if up then c + 1 else c + 255) % 256) ∧
        t.cpu.memptr = (if up then s.bc + 1 else s.bc - 1) ∧ (again → t.cpu.pc = s.cpu.pc - 2)
    let outputs (i : Instr) (up repeats : Bool) : Prop :=
      let again := repeats && s.cpu.b != 1
      let v := s.readByte s.hl
      let p := Word.ofBytes b s.cpu.c
      DoesOutAs again i s p v ([.b, .h, .l, .f, .memptr] ++ repeatCells again) (if again then 21 else 16) fun t =>
        t.cpu.b = b ∧ t.hl = (if up then s.hl + 1 else s.hl - 1) ∧
          t.cpu.f = refIoBlock v b (v.toNat + t.cpu.l.toNat) ∧ t.cpu.memptr = (if up then p + 1 else p - 1) ∧
          (again → t.cpu.pc = s.cpu.pc - 2)
    inputs .ini true false ∧ inputs .ind false false ∧ inputs .inir true true ∧ inputs .indr false true ∧
    outputs .outi true false ∧ outputs .outd false false ∧ outputs .otir true true ∧ outputs .otdr false true

/-- Which device answers a read (R101, R560, R562): the floppy controller and its system register only while the disk ROM is
selected, then the AY, then the ULA; a read no device claims is the floating bus. No read changes the core, memory, the
mapping, the bank latch or the host's queue. -/
def Obligations.PortReads : Prop :=
  ∀ (s : State) (p : Word),
    let n := p.toNat
    let disk := s.rom = s.params.diskRom
    let fdc := disk ∧ n % 256 ∈ [0x1F, 0x3F, 0x5F, 0x7F]
    let sys := disk ∧ n % 256 = 0xFF
    let ay := n / 16384 = 3 ∧ n / 2 % 2 = 0
    let ula := n % 2 = 0
    let t := s.portRead p
    (fdc → s.portValue p = ((s.syncFdc s.accessClk).fdc.readReg s.params.fdc (n / 32 % 4)).1) ∧
    (sys → s.portValue p = (s.syncFdc s.accessClk).fdc.systemByte) ∧
    (¬fdc → ¬sys → ay → s.portValue p = (s.syncAy s.accessClk).ay.reg s.ay.sel) ∧
    (¬fdc → ¬sys → ¬ay → ula → s.portValue p = s.ula.portByte p (s.syncTape s.accessClk).tape.latch) ∧
    (¬fdc → ¬sys → ¬ay → ¬ula → s.portValue p = s.floatingBus ∧ t = s) ∧
    t.cpu = s.cpu ∧ t.mem = s.mem ∧ t.rom = s.rom ∧ t.ram3 = s.ram3 ∧ t.latch = s.latch ∧ t.pending = s.pending ∧
    t.answers = s.answers ∧ t.params = s.params

/-- The bank latch (R94, R101, R563): on a 128K machine whose latch is not locked, a write to a port with bits 15 and 1 clear
stores the byte, selects the RAM bank and, unless the disk ROM is active, the ROM; once bit 5 is 1, and on a 48K machine, it
changes none of them. That a bank the machine does not have leaves slot 3 as it was is the model's choice
(notes/assumptions/8.md). No port write changes the core or memory. -/
def Obligations.BankLatch : Prop :=
  ∀ (s : State) (p : Word) (v : Byte),
    let t := s.ioWrite p v
    let owned := s.params.variant = .m128 ∧ p.toNat < 0x8000 ∧ p.toNat / 2 % 2 = 0
    let locked := bit s.latch.toNat 5 = true
    (owned → ¬locked → t.latch = v ∧
      t.ram3.toNat = (if v.toNat % 8 < s.params.ramBanks then v.toNat % 8 else s.ram3.toNat) ∧
      t.rom = if s.rom = s.params.diskRom then s.rom else if bit v.toNat 4 then .rom1 else .rom0) ∧
    (¬owned ∨ locked → t.latch = s.latch ∧ t.ram3 = s.ram3 ∧ t.rom = s.rom) ∧
    t.cpu = s.cpu ∧ t.mem = s.mem ∧ t.pending = s.pending ∧ t.answers = s.answers ∧ t.params = s.params

/-- The AY's registers (R567): the select port chooses a register; the data port stores in it with the reserved bits masked and
leaves the other registers; a write of the shape restarts the envelope; and what is stored reads back. -/
def Obligations.SoundRegisters : Prop :=
  ∀ (s : State) (v w : Byte) (p q : Word), p.toNat / 16384 = 3 → p.toNat / 2 % 2 = 0 → q.toNat / 16384 = 2 →
    q.toNat / 2 % 2 = 0 →
    let t := (s.ioWrite p v).ioWrite q w
    let r := v.toNat % 16
    let kept := if r ∈ [1, 3, 5, 13] then w.toNat % 16 else if r ∈ [6, 8, 9, 10] then w.toNat % 32 else w.toNat
    t.ay.sel.toNat = r ∧ (t.portValue p).toNat = kept ∧ (∀ k : BitVec 4, k.toNat ≠ r → t.ay.reg k = s.ay.reg k) ∧
    (r = 13 → t.ay.envStep = 0)

/-- The ULA's port (R561): an even port takes border, MIC and beeper from a write; a read gives bits 7 and 5 as 1, the tape
level in bit 6, and the AND of the selected keyboard rows below, so with no key pressed bits 4 to 0 are 1. -/
def Obligations.UlaPort : Prop :=
  ∀ (s : State) (p : Word) (v : Byte), p.toNat % 2 = 0 →
    let t := s.ioWrite p v
    let b := s.ula.portByte p (s.syncTape s.accessClk).tape.latch
    t.ula.border.toNat = v.toNat % 8 ∧ t.ula.mic = bit v.toNat 3 ∧ t.ula.beeper = bit v.toNat 4 ∧
    b.getLsbD 7 = true ∧ b.getLsbD 5 = true ∧ b.getLsbD 6 = (s.syncTape s.accessClk).tape.latch ∧
    (∀ k < 5, b.getLsbD k = decide (∀ row : Fin 8, p.getLsbD (8 + row) = false → (s.ula.keys[row]).getLsbD k = true))

/-- The floppy controller without media (R521, R565, R566): the not-ready bit is 1 in every status read; and once the
controller has caught up, whatever it was doing when the media went or the drive was selected, no data request stands. A Type
II or III command there ends at once, not busy, with INTRQ raised, no byte transferred and the drives unchanged: R521, R565
and R566 do not say how it ends, and this is the model's choice, taken from the WD1793 (PRESUMED: notes/assumptions/30.md). A
command other than force interrupt is ignored while one is active. -/
def Obligations.FloppyNotReadyAndBusy : Prop :=
  ∀ (f : Fdc) (w : FdcTiming) (v : Byte) (clk : Int),
    (f.drive.media = none → f.statusByte.getLsbD 7 = true) ∧
    (f.drive.media = none → f.busy = false → 0x80 ≤ v.toNat → v.toNat / 16 ≠ 0xD →
      (f.writeCommand w v).busy = false ∧ (f.writeCommand w v).intrq = true ∧ (f.writeCommand w v).data = f.data ∧
        (f.writeCommand w v).drives = f.drives) ∧
    (f.drive.media = none → (∀ x, (f.update w clk).phase ≠ .request x) ∧ (f.update w clk).systemByte.getLsbD 6 = false) ∧
    (f.busy = true → v.toNat / 16 ≠ 0xD → f.writeCommand w v = f)

/-- The tape deck (R569): with the deck stopped an update leaves the latch, the phase, the cursor and the image as they are,
forgets the elapsed time and moves the baseline; a pulse boundary toggles the latch; the end of the last bit of a block goes
back to silence with the next block under the cursor, and a silence at the end of the image ends in the stop. That the end of a
silence toggles nothing is the model's reading (DEDUCED: notes/assumptions/35.md). -/
def Obligations.TapePulses : Prop :=
  ∀ (d : Tape) (w : TapeTiming) (clk : Int) (k : Nat),
    (d.phase = .stop → d.update w clk = { d with elapsed := 0, baseline := clk }) ∧
    (d.phase ≠ .stop → d.phase ≠ .silence → (d.boundary w).latch = !d.latch) ∧
    (d.phase = .data k 0 true → d.blockLength ≤ k + 1 →
      (d.boundary w).phase = .silence ∧ (d.boundary w).pos = d.pos + 2 + d.blockLength) ∧
    (d.phase = .silence → d.pos = d.image.length → (d.boundary w).phase = .stop) ∧
    (d.phase = .silence → (d.boundary w).latch = d.latch)

end
end

