-- ==== Sys2Proof/Laws/Devices.lean ====
section
/-! SUPPORT. What the devices' operations can do: the status byte bit by bit, a transfer without media, an AY without levels,
and the boundaries of a tape. -/

namespace Sys2Proof.Machine

/-- A byte below whose top bit stand seven bits. -/
theorem topBit (r : Bool) (low : BitVec 7) : (BitVec.ofBool r ++ low : Byte).getLsbD 7 = r := by
  revert r low
  decide

/-- The bits of the Type I layout, one by one. -/
theorem typeILayout (r wp hl : Bool) (se : BitVec 2) (t0 ix : Bool) (b : BitVec 1) :
    let v : Byte := BitVec.ofBool r ++
      (BitVec.ofBool wp ++ BitVec.ofBool hl ++ se ++ BitVec.ofBool t0 ++ BitVec.ofBool ix ++ b : BitVec 7)
    v.getLsbD 6 = wp ∧ v.getLsbD 5 = hl ∧ v.getLsbD 4 = se.getLsbD 1 ∧ v.getLsbD 3 = se.getLsbD 0 ∧ v.getLsbD 2 = t0 ∧
      v.getLsbD 1 = ix ∧ v.getLsbD 0 = b.getLsbD 0 := by
  revert r wp hl se t0 ix b
  decide

/-- The not-ready bit, in every layout. -/
theorem Fdc.statusByte_notReady (f : Fdc) : f.statusByte.getLsbD 7 = !f.ready := topBit _ _

/-- The Type I layout bit by bit; bit 1 is a free value. -/
theorem Fdc.statusByte_typeI (f : Fdc) (h : f.statusKind = .typeI) :
    f.statusByte.getLsbD 6 = f.drive.writeProtect ∧ f.statusByte.getLsbD 5 = f.drive.headLoaded ∧
      f.statusByte.getLsbD 4 = f.status.getLsbD 4 ∧ f.statusByte.getLsbD 3 = f.status.getLsbD 3 ∧
      f.statusByte.getLsbD 2 = (f.drive.head == 0) ∧ f.statusByte.getLsbD 1 = Config.fdcIndex f.draws ∧
      f.statusByte.getLsbD 0 = f.status.getLsbD 0 := by
  have l := typeILayout (!f.ready) f.drive.writeProtect f.drive.headLoaded (f.status.extractLsb' 3 2) (f.drive.head == 0)
    (Config.fdcIndex f.draws) (f.status.extractLsb' 0 1)
  have hs : f.statusByte = BitVec.ofBool (!f.ready) ++ f.typeIBits := by
    unfold Fdc.statusByte
    rw [h]
  rw [hs, Fdc.typeIBits]
  simpa only [BitVec.getLsbD_extractLsb', Nat.reduceAdd, Nat.reduceLT, decide_true, Bool.true_and] using l

/-- A drive without media is left with no transfer. -/
theorem Fdc.dropTransfer_phase (f : Fdc) (h : f.ready = false) (x : Transfer) (d : Nat) :
    f.dropTransfer.phase ≠ .waiting x d ∧ f.dropTransfer.phase ≠ .request x := by
  unfold Fdc.dropTransfer
  split <;> simp_all [Fdc.finish]

/-- A channel at level 0 contributes nothing, whatever its generators do (R568). -/
theorem Ay.contribution_zero (y : Ay) (tables : AyTables) (k : Nat) (t : Tone) (vol : BitVec 4) (h : y.level vol = 0) :
    y.contribution tables k t vol = 0 := by
  simp [Ay.contribution, h]

/-- With every level 0 the AY's part of a sample is silence (R568). -/
theorem Ay.mix_zero (y : Ay) (cfg : AudioConfig) (tables : AyTables) (h : ∀ vol, y.level vol = 0) :
    y.mix cfg tables = { left := 0, right := 0 } := by
  simp [Ay.mix, Ay.panned, Stereo.add, Ay.contribution_zero, h]

/-- A pulse boundary toggles the latch; the end of a silence does not, and the stopped deck has none (R569). -/
theorem Tape.boundary_latch (t : Tape) (w : TapeTiming) :
    (t.boundary w).latch = match t.phase with
      | .stop => t.latch
      | .silence => t.latch
      | _ => !t.latch := by
  unfold Tape.boundary
  split <;> simp_all [Tape.dataAt, Tape.nextBlock] <;> split <;> rfl

end Sys2Proof.Machine
end

