-- ==== Sys2Proof/Laws/Memory.lean ====
section
/-! SUPPORT. The laws of a memory: a read after a write, and that every operation keeps the canonical form. -/

namespace Sys2Proof.Machine

/-! ## Reads -/

@[simp] theorem Memory.read_nil (a : Nat) : Memory.read [] a = Memory.blank := rfl

theorem Memory.read_cons (k : Nat) (v : Byte) (m : Memory) (a : Nat) :
    Memory.read ((k, v) :: m) a = if k = a then v else Memory.read m a := rfl

theorem Memory.read_erase_same (m : Memory) (a : Nat) : Memory.read (Memory.erase m a) a = Memory.blank := by
  induction m with
  | nil => rfl
  | cons c m ih =>
    obtain ⟨k, v⟩ := c
    by_cases h : k = a <;> simp [Memory.erase, Memory.read, h, ih]

theorem Memory.read_erase_other (m : Memory) {a b : Nat} (h : b ≠ a) :
    Memory.read (Memory.erase m a) b = Memory.read m b := by
  induction m with
  | nil => rfl
  | cons c m ih =>
    obtain ⟨k, v⟩ := c
    by_cases hk : k = a
    · simp [Memory.erase, Memory.read, hk, ih, Ne.symm h]
    · simp [Memory.erase, Memory.read, hk, ih]

theorem Memory.read_insert_other (m : Memory) {a b : Nat} (v : Byte) (h : b ≠ a) :
    Memory.read (Memory.insert m a v) b = Memory.read m b := by
  induction m with
  | nil => simp [Memory.insert, Memory.read, Ne.symm h]
  | cons c m ih =>
    obtain ⟨k, w⟩ := c
    by_cases hk : a < k <;> simp [Memory.insert, Memory.read, hk, ih, Ne.symm h]

theorem Memory.read_insert_erase (m : Memory) (a : Nat) (v : Byte) :
    Memory.read (Memory.insert (Memory.erase m a) a v) a = v := by
  induction m with
  | nil => simp [Memory.erase, Memory.insert, Memory.read]
  | cons c m ih =>
    obtain ⟨k, w⟩ := c
    by_cases hk : k = a
    · simp [Memory.erase, hk, ih]
    · by_cases hl : a < k <;> simp [Memory.erase, Memory.insert, Memory.read, hk, hl, ih]

/-- A byte just written is what is read. -/
@[simp] theorem Memory.read_write_same (m : Memory) (a : Nat) (v : Byte) : Memory.read (Memory.write m a v) a = v := by
  unfold Memory.write
  split
  · rename_i h
    rw [Memory.read_erase_same, h]
  · exact Memory.read_insert_erase m a v

/-- A write leaves every other byte alone. -/
theorem Memory.read_write_other (m : Memory) {a b : Nat} (v : Byte) (h : b ≠ a) :
    Memory.read (Memory.write m a v) b = Memory.read m b := by
  unfold Memory.write
  split
  · exact Memory.read_erase_other m h
  · rw [Memory.read_insert_other _ _ h, Memory.read_erase_other m h]

/-- What a byte reads as after a write. -/
theorem Memory.read_write (m : Memory) (a b : Nat) (v : Byte) :
    Memory.read (Memory.write m a v) b = if b = a then v else Memory.read m b := by
  split
  · rename_i h
    rw [h, Memory.read_write_same]
  · rename_i h
    exact Memory.read_write_other m v h

/-! ## The canonical form -/

@[simp] theorem Memory.wfFrom_cons (lo k : Nat) (v : Byte) (m : Memory) :
    Memory.wfFrom lo ((k, v) :: m) = true ↔ lo ≤ k ∧ v ≠ Memory.blank ∧ Memory.wfFrom (k + 1) m = true := by
  simp [Memory.wfFrom, and_assoc]

@[simp] theorem Memory.below_cons (n k : Nat) (v : Byte) (m : Memory) :
    Memory.below n ((k, v) :: m) = true ↔ k < n ∧ Memory.below n m = true := by
  simp [Memory.below]

theorem Memory.wfFrom_of_le {lo lo' : Nat} {m : Memory} (h : Memory.wfFrom lo m = true) (hl : lo' ≤ lo) :
    Memory.wfFrom lo' m = true := by
  cases m with
  | nil => rfl
  | cons c m =>
    obtain ⟨k, v⟩ := c
    rw [Memory.wfFrom_cons] at h ⊢
    exact ⟨Nat.le_trans hl h.1, h.2⟩

theorem Memory.wfFrom_erase {lo : Nat} {m : Memory} (a : Nat) (h : Memory.wfFrom lo m = true) :
    Memory.wfFrom lo (Memory.erase m a) = true := by
  induction m generalizing lo with
  | nil => rfl
  | cons c m ih =>
    obtain ⟨k, v⟩ := c
    rw [Memory.wfFrom_cons] at h
    by_cases hk : k = a
    · simp only [Memory.erase, hk, if_true]
      exact Memory.wfFrom_of_le (ih h.2.2) (by omega)
    · simp only [Memory.erase, hk, if_false, Memory.wfFrom_cons]
      exact ⟨h.1, h.2.1, ih h.2.2⟩

theorem Memory.wfFrom_insert {lo : Nat} {m : Memory} {a : Nat} {v : Byte} (h : Memory.wfFrom lo m = true)
    (hl : lo ≤ a) (hv : v ≠ Memory.blank) (ha : ∀ c ∈ m, c.1 ≠ a) : Memory.wfFrom lo (Memory.insert m a v) = true := by
  induction m generalizing lo with
  | nil => simp [Memory.insert, hl, hv, Memory.wfFrom]
  | cons c m ih =>
    obtain ⟨k, w⟩ := c
    rw [Memory.wfFrom_cons] at h
    have hk : k ≠ a := ha (k, w) (by simp)
    by_cases hlt : a < k
    · simp only [Memory.insert, hlt, if_true, Memory.wfFrom_cons]
      exact ⟨hl, hv, hlt, h.2⟩
    · simp only [Memory.insert, hlt, if_false, Memory.wfFrom_cons]
      exact ⟨h.1, h.2.1, ih h.2.2 (by omega) fun c hc => ha c (by simp [hc])⟩

theorem Memory.erase_ne (m : Memory) (a : Nat) : ∀ c ∈ Memory.erase m a, c.1 ≠ a := by
  induction m with
  | nil => simp [Memory.erase]
  | cons c m ih =>
    obtain ⟨k, v⟩ := c
    by_cases hk : k = a
    · simpa only [Memory.erase, hk, if_true] using ih
    · simp only [Memory.erase, hk, if_false, List.mem_cons]
      rintro c (rfl | hc)
      · exact hk
      · exact ih c hc

/-- A write keeps the canonical form. -/
theorem Memory.wfFrom_write {lo : Nat} {m : Memory} {a : Nat} (v : Byte) (h : Memory.wfFrom lo m = true) (hl : lo ≤ a) :
    Memory.wfFrom lo (Memory.write m a v) = true := by
  unfold Memory.write
  split
  · exact Memory.wfFrom_erase a h
  · rename_i hv
    exact Memory.wfFrom_insert (Memory.wfFrom_erase a h) hl hv (Memory.erase_ne m a)

/-- A write keeps the canonical form of a whole memory. -/
theorem Memory.wf_write {m : Memory} (a : Nat) (v : Byte) (h : Memory.wf m = true) :
    Memory.wf (Memory.write m a v) = true := Memory.wfFrom_write v h (Nat.zero_le a)

theorem Memory.below_erase {n : Nat} {m : Memory} (a : Nat) (h : Memory.below n m = true) :
    Memory.below n (Memory.erase m a) = true := by
  induction m with
  | nil => rfl
  | cons c m ih =>
    obtain ⟨k, v⟩ := c
    rw [Memory.below_cons] at h
    by_cases hk : k = a
    · simpa only [Memory.erase, hk, if_true] using ih h.2
    · simp only [Memory.erase, hk, if_false, Memory.below_cons]
      exact ⟨h.1, ih h.2⟩

theorem Memory.below_insert {n : Nat} {m : Memory} {a : Nat} (v : Byte) (h : Memory.below n m = true) (ha : a < n) :
    Memory.below n (Memory.insert m a v) = true := by
  induction m with
  | nil => simp [Memory.insert, ha, Memory.below]
  | cons c m ih =>
    obtain ⟨k, w⟩ := c
    rw [Memory.below_cons] at h
    by_cases hlt : a < k
    · simp only [Memory.insert, hlt, if_true, Memory.below_cons]
      exact ⟨ha, h⟩
    · simp only [Memory.insert, hlt, if_false, Memory.below_cons]
      exact ⟨h.1, ih h.2⟩

/-- A write below a bound keeps every address below it. -/
theorem Memory.below_write {n : Nat} {m : Memory} {a : Nat} (v : Byte) (h : Memory.below n m = true) (ha : a < n) :
    Memory.below n (Memory.write m a v) = true := by
  unfold Memory.write
  split
  · exact Memory.below_erase a h
  · exact Memory.below_insert v (Memory.below_erase a h) ha

/-- The bytes of a list form a canonical memory. -/
theorem Memory.wfFrom_ofBytes (bytes : List Byte) (a : Nat) : Memory.wfFrom a (Memory.ofBytes a bytes) = true := by
  induction bytes generalizing a with
  | nil => rfl
  | cons v vs ih =>
    by_cases hv : v = Memory.blank
    · simp only [Memory.ofBytes, hv, if_true]
      exact Memory.wfFrom_of_le (ih (a + 1)) (Nat.le_succ a)
    · simp only [Memory.ofBytes, hv, if_false, Memory.wfFrom_cons]
      exact ⟨Nat.le_refl a, hv, ih (a + 1)⟩

/-- A part of a canonical memory is canonical. -/
theorem Memory.wfFrom_filter {lo : Nat} {m : Memory} (p : Host.Cell → Bool) (h : Memory.wfFrom lo m = true) :
    Memory.wfFrom lo (m.filter p) = true := by
  induction m generalizing lo with
  | nil => rfl
  | cons c m ih =>
    obtain ⟨k, v⟩ := c
    rw [Memory.wfFrom_cons] at h
    by_cases hp : p (k, v) = true
    · rw [List.filter_cons_of_pos hp, Memory.wfFrom_cons]
      exact ⟨h.1, h.2.1, ih h.2.2⟩
    · rw [List.filter_cons_of_neg hp]
      exact Memory.wfFrom_of_le (ih h.2.2) (by omega)

theorem Memory.below_filter {n : Nat} {m : Memory} (p : Host.Cell → Bool) (h : Memory.below n m = true) :
    Memory.below n (m.filter p) = true := by
  induction m with
  | nil => rfl
  | cons c m ih =>
    obtain ⟨k, v⟩ := c
    rw [Memory.below_cons] at h
    by_cases hp : p (k, v) = true
    · rw [List.filter_cons_of_pos hp, Memory.below_cons]
      exact ⟨h.1, ih h.2⟩
    · rw [List.filter_cons_of_neg hp]
      exact ih h.2

/-- The bytes of a list stand below its end. -/
theorem Memory.below_ofBytes (bytes : List Byte) (a : Nat) :
    Memory.below (a + bytes.length) (Memory.ofBytes a bytes) = true := by
  induction bytes generalizing a with
  | nil => rfl
  | cons v vs ih =>
    have h : a + (v :: vs).length = a + 1 + vs.length := by simp only [List.length_cons]; omega
    rw [h]
    by_cases hv : v = Memory.blank
    · simpa only [Memory.ofBytes, hv, if_true] using ih (a + 1)
    · simp only [Memory.ofBytes, hv, if_false, Memory.below_cons]
      exact ⟨by omega, ih (a + 1)⟩

/-- A canonical memory below an address with a canonical one from there on is canonical. -/
theorem Memory.wfFrom_append {lo n : Nat} {m m' : Memory} (hl : lo ≤ n) (h : Memory.wfFrom lo m = true)
    (hb : Memory.below n m = true) (h' : Memory.wfFrom n m' = true) : Memory.wfFrom lo (m ++ m') = true := by
  induction m generalizing lo with
  | nil => exact Memory.wfFrom_of_le h' hl
  | cons c m ih =>
    obtain ⟨k, v⟩ := c
    rw [Memory.wfFrom_cons] at h
    rw [Memory.below_cons] at hb
    rw [List.cons_append, Memory.wfFrom_cons]
    exact ⟨h.1, h.2.1, ih hb.1 h.2.2 hb.2⟩

theorem Memory.below_append {n : Nat} {m m' : Memory} (h : Memory.below n m = true) (h' : Memory.below n m' = true) :
    Memory.below n (m ++ m') = true := by
  induction m with
  | nil => exact h'
  | cons c m ih =>
    obtain ⟨k, v⟩ := c
    rw [Memory.below_cons] at h
    rw [List.cons_append, Memory.below_cons]
    exact ⟨h.1, ih h.2⟩

theorem Memory.below_of_le {n n' : Nat} {m : Memory} (h : Memory.below n m = true) (hn : n ≤ n') :
    Memory.below n' m = true := by
  induction m with
  | nil => rfl
  | cons c m ih =>
    obtain ⟨k, v⟩ := c
    rw [Memory.below_cons] at h ⊢
    exact ⟨by omega, ih h.2⟩

/-- The entries from an address upward start there. -/
theorem Memory.wfFrom_above {lo : Nat} {m : Memory} (h : Memory.wf m = true) :
    Memory.wfFrom lo (Memory.above m lo) = true := by
  have aux : ∀ k, Memory.wfFrom k m = true → Memory.wfFrom lo (Memory.above m lo) = true := by
    clear h
    induction m with
    | nil => exact fun _ _ => rfl
    | cons c m ih =>
      obtain ⟨k, v⟩ := c
      intro j h
      rw [Memory.wfFrom_cons] at h
      by_cases hk : lo ≤ k
      · simp only [Memory.above, List.filter_cons, hk, decide_true, if_true, Memory.wfFrom_cons]
        exact ⟨trivial, h.2.1, Memory.wfFrom_filter _ h.2.2⟩
      · simp only [Memory.above, List.filter_cons, hk, decide_false, Bool.false_eq_true, if_false]
        exact ih _ h.2.2
  exact aux 0 h

/-- The entries below an address stand below it. -/
theorem Memory.below_filter_lt (m : Memory) (n : Nat) : Memory.below n (m.filter fun c => decide (c.1 < n)) = true := by
  induction m with
  | nil => rfl
  | cons c m ih =>
    obtain ⟨k, v⟩ := c
    by_cases hk : k < n
    · simp only [List.filter_cons, hk, decide_true, if_true, Memory.below_cons, true_and]
      exact ih
    · simp only [List.filter_cons, hk, decide_false, Bool.false_eq_true, if_false]
      exact ih

/-- Below the first address of a memory every byte is blank. -/
theorem Memory.read_lt_wfFrom {lo k : Nat} {m : Memory} (h : Memory.wfFrom lo m = true) (hk : k < lo) :
    Memory.read m k = Memory.blank := by
  induction m generalizing lo with
  | nil => rfl
  | cons c m ih =>
    obtain ⟨j, v⟩ := c
    rw [Memory.wfFrom_cons] at h
    rw [Memory.read_cons, if_neg (by omega)]
    exact ih h.2.2 (by omega)

/-- Below the addresses of the second part, two memories one after the other read as the first. -/
theorem Memory.read_append_lt {n k : Nat} {m m' : Memory} (h' : Memory.wfFrom n m' = true) (hk : k < n) :
    Memory.read (m ++ m') k = Memory.read m k := by
  induction m with
  | nil => exact Memory.read_lt_wfFrom h' hk
  | cons c m ih => rw [List.cons_append, Memory.read_cons, Memory.read_cons, ih]

/-- Where the second part has no entry, two memories one after the other read as the first. -/
theorem Memory.read_append_of_absent {k : Nat} {m m' : Memory} (h : ∀ c ∈ m', c.1 ≠ k) :
    Memory.read (m ++ m') k = Memory.read m k := by
  induction m with
  | nil =>
    induction m' with
    | nil => rfl
    | cons c m' ih =>
      obtain ⟨j, v⟩ := c
      rw [List.nil_append, Memory.read_cons, if_neg (h (j, v) (List.mem_cons_self ..))]
      exact ih fun c hc => h c (List.mem_cons_of_mem _ hc)
  | cons c m ih => rw [List.cons_append, Memory.read_cons, Memory.read_cons, ih]

/-- Above the addresses of the first part, two memories one after the other read as the second. -/
theorem Memory.read_append_ge {n k : Nat} {m m' : Memory} (h : Memory.below n m = true) (hk : n ≤ k) :
    Memory.read (m ++ m') k = Memory.read m' k := by
  induction m with
  | nil => rfl
  | cons c m ih =>
    obtain ⟨j, v⟩ := c
    rw [Memory.below_cons] at h
    rw [List.cons_append, Memory.read_cons, if_neg (by omega), ih h.2]

/-- The bytes of a list read back from where they stand. -/
theorem Memory.read_ofBytes (bytes : List Byte) (a k : Nat) (hk : k < bytes.length) :
    Memory.read (Memory.ofBytes a bytes) (a + k) = bytes[k] := by
  induction bytes generalizing a k with
  | nil => exact absurd hk (Nat.not_lt_zero k)
  | cons v vs ih =>
    cases k with
    | zero =>
      by_cases hv : v = Memory.blank
      · simp only [Memory.ofBytes, hv, if_true, Nat.add_zero, List.getElem_cons_zero]
        exact Memory.read_lt_wfFrom (Memory.wfFrom_ofBytes vs (a + 1)) (Nat.lt_succ_self a)
      · simp only [Memory.ofBytes, hv, if_false, Memory.read_cons, Nat.add_zero, if_true, List.getElem_cons_zero]
    | succ k =>
      have h := ih (a + 1) k (by simpa using hk)
      rw [show a + 1 + k = a + (k + 1) by omega] at h
      by_cases hv : v = Memory.blank
      · simpa only [Memory.ofBytes, hv, if_true, List.getElem_cons_succ] using h
      · simpa only [Memory.ofBytes, hv, if_false, Memory.read_cons, show ¬a = a + (k + 1) by omega,
          List.getElem_cons_succ] using h

/-! ## Pages -/

theorem offOf_lt (a : Word) : offOf a < pageSize := Nat.mod_lt _ (by decide)

/-- A location gives back its page. -/
theorem physical_page {p o : Nat} (h : o < pageSize) : physical p o / pageSize = p := by
  simp only [physical, pageSize] at *
  omega

/-- Locations in different pages differ. -/
theorem physical_ne {p q o o' : Nat} (h : o < pageSize) (h' : o' < pageSize) (hpq : p ≠ q) :
    physical p o ≠ physical q o' := by
  simp only [physical, pageSize] at *
  omega

/-- A readable page is never the null sink. -/
theorem State.readPage_ne_sink (s : State) (slot : Nat) : s.readPage slot ≠ sinkPage := by
  have h : ∀ n : BitVec 3, ramPage n ≠ sinkPage := fun n => by
    have := n.isLt
    simp only [ramPage, sinkPage]
    omega
  unfold State.readPage
  split
  · cases s.rom <;> decide
  · exact h 5
  · exact h 2
  · exact h s.ram3

/-- A written page is never a ROM page: it is RAM or the sink. -/
theorem State.writePage_cases (s : State) (slot : Nat) : s.writePage slot < 8 ∨ s.writePage slot = sinkPage := by
  unfold State.writePage
  split
  · exact .inr rfl
  · exact .inl (by decide)
  · exact .inl (by decide)
  · exact .inl s.ram3.isLt

/-- Every written location exists. -/
theorem State.writeLoc_lt (s : State) (a : Word) : s.writeLoc a < pageCount * pageSize := by
  have h := offOf_lt a
  have hp := s.writePage_cases (slotOf a)
  simp only [State.writeLoc, physical, pageCount, pageSize, sinkPage] at *
  omega

/-- A location read is a location written exactly where the offsets agree and the pages do. -/
theorem State.writeLoc_eq_readLoc (s : State) (a : Word) (h : 0x4000 ≤ a.toNat) : s.writeLoc a = s.readLoc a := by
  have hs : slotOf a ≠ 0 := by
    simp only [slotOf]
    omega
  unfold State.writeLoc State.readLoc State.writePage State.readPage
  split <;> simp_all

/-- No address reads from where a store below 0x4000 goes. -/
theorem State.readLoc_ne_of_rom (s : State) (a p : Word) (h : a.toNat < 0x4000) : s.readLoc p ≠ s.writeLoc a := by
  have hs : slotOf a = 0 := by
    simp only [slotOf]
    omega
  unfold State.readLoc State.writeLoc
  rw [hs]
  exact physical_ne (offOf_lt p) (offOf_lt a) (s.readPage_ne_sink _)

end Sys2Proof.Machine
end

