-- ==== Sys2Proof/Laws/State.lean ====
section
/-! SUPPORT. What each update of the state leaves of each field: one lemma per field per update, so that no proof unfolds a
record update. The core's field is given as the core with the one cell changed. -/

namespace Sys2Proof.Machine

@[simp] theorem State.setA_cpu (s : State) (v : Byte) : (s.setA v).cpu = { s.cpu with a := v } := rfl
@[simp] theorem State.setA_mem (s : State) (v : Byte) : (s.setA v).mem = s.mem := rfl
@[simp] theorem State.setA_rom (s : State) (v : Byte) : (s.setA v).rom = s.rom := rfl
@[simp] theorem State.setA_ram3 (s : State) (v : Byte) : (s.setA v).ram3 = s.ram3 := rfl
@[simp] theorem State.setA_latch (s : State) (v : Byte) : (s.setA v).latch = s.latch := rfl
@[simp] theorem State.setA_ula (s : State) (v : Byte) : (s.setA v).ula = s.ula := rfl
@[simp] theorem State.setA_ay (s : State) (v : Byte) : (s.setA v).ay = s.ay := rfl
@[simp] theorem State.setA_fdc (s : State) (v : Byte) : (s.setA v).fdc = s.fdc := rfl
@[simp] theorem State.setA_tape (s : State) (v : Byte) : (s.setA v).tape = s.tape := rfl
@[simp] theorem State.setA_pending (s : State) (v : Byte) : (s.setA v).pending = s.pending := rfl
@[simp] theorem State.setA_answers (s : State) (v : Byte) : (s.setA v).answers = s.answers := rfl
@[simp] theorem State.setA_draws (s : State) (v : Byte) : (s.setA v).draws = s.draws := rfl
@[simp] theorem State.setA_params (s : State) (v : Byte) : (s.setA v).params = s.params := rfl

@[simp] theorem State.setF_cpu (s : State) (v : Byte) : (s.setF v).cpu = { s.cpu with f := v } := rfl
@[simp] theorem State.setF_mem (s : State) (v : Byte) : (s.setF v).mem = s.mem := rfl
@[simp] theorem State.setF_rom (s : State) (v : Byte) : (s.setF v).rom = s.rom := rfl
@[simp] theorem State.setF_ram3 (s : State) (v : Byte) : (s.setF v).ram3 = s.ram3 := rfl
@[simp] theorem State.setF_latch (s : State) (v : Byte) : (s.setF v).latch = s.latch := rfl
@[simp] theorem State.setF_ula (s : State) (v : Byte) : (s.setF v).ula = s.ula := rfl
@[simp] theorem State.setF_ay (s : State) (v : Byte) : (s.setF v).ay = s.ay := rfl
@[simp] theorem State.setF_fdc (s : State) (v : Byte) : (s.setF v).fdc = s.fdc := rfl
@[simp] theorem State.setF_tape (s : State) (v : Byte) : (s.setF v).tape = s.tape := rfl
@[simp] theorem State.setF_pending (s : State) (v : Byte) : (s.setF v).pending = s.pending := rfl
@[simp] theorem State.setF_answers (s : State) (v : Byte) : (s.setF v).answers = s.answers := rfl
@[simp] theorem State.setF_draws (s : State) (v : Byte) : (s.setF v).draws = s.draws := rfl
@[simp] theorem State.setF_params (s : State) (v : Byte) : (s.setF v).params = s.params := rfl

@[simp] theorem State.setB_cpu (s : State) (v : Byte) : (s.setB v).cpu = { s.cpu with b := v } := rfl
@[simp] theorem State.setB_mem (s : State) (v : Byte) : (s.setB v).mem = s.mem := rfl
@[simp] theorem State.setB_rom (s : State) (v : Byte) : (s.setB v).rom = s.rom := rfl
@[simp] theorem State.setB_ram3 (s : State) (v : Byte) : (s.setB v).ram3 = s.ram3 := rfl
@[simp] theorem State.setB_latch (s : State) (v : Byte) : (s.setB v).latch = s.latch := rfl
@[simp] theorem State.setB_ula (s : State) (v : Byte) : (s.setB v).ula = s.ula := rfl
@[simp] theorem State.setB_ay (s : State) (v : Byte) : (s.setB v).ay = s.ay := rfl
@[simp] theorem State.setB_fdc (s : State) (v : Byte) : (s.setB v).fdc = s.fdc := rfl
@[simp] theorem State.setB_tape (s : State) (v : Byte) : (s.setB v).tape = s.tape := rfl
@[simp] theorem State.setB_pending (s : State) (v : Byte) : (s.setB v).pending = s.pending := rfl
@[simp] theorem State.setB_answers (s : State) (v : Byte) : (s.setB v).answers = s.answers := rfl
@[simp] theorem State.setB_draws (s : State) (v : Byte) : (s.setB v).draws = s.draws := rfl
@[simp] theorem State.setB_params (s : State) (v : Byte) : (s.setB v).params = s.params := rfl

@[simp] theorem State.setC_cpu (s : State) (v : Byte) : (s.setC v).cpu = { s.cpu with c := v } := rfl
@[simp] theorem State.setC_mem (s : State) (v : Byte) : (s.setC v).mem = s.mem := rfl
@[simp] theorem State.setC_rom (s : State) (v : Byte) : (s.setC v).rom = s.rom := rfl
@[simp] theorem State.setC_ram3 (s : State) (v : Byte) : (s.setC v).ram3 = s.ram3 := rfl
@[simp] theorem State.setC_latch (s : State) (v : Byte) : (s.setC v).latch = s.latch := rfl
@[simp] theorem State.setC_ula (s : State) (v : Byte) : (s.setC v).ula = s.ula := rfl
@[simp] theorem State.setC_ay (s : State) (v : Byte) : (s.setC v).ay = s.ay := rfl
@[simp] theorem State.setC_fdc (s : State) (v : Byte) : (s.setC v).fdc = s.fdc := rfl
@[simp] theorem State.setC_tape (s : State) (v : Byte) : (s.setC v).tape = s.tape := rfl
@[simp] theorem State.setC_pending (s : State) (v : Byte) : (s.setC v).pending = s.pending := rfl
@[simp] theorem State.setC_answers (s : State) (v : Byte) : (s.setC v).answers = s.answers := rfl
@[simp] theorem State.setC_draws (s : State) (v : Byte) : (s.setC v).draws = s.draws := rfl
@[simp] theorem State.setC_params (s : State) (v : Byte) : (s.setC v).params = s.params := rfl

@[simp] theorem State.setD_cpu (s : State) (v : Byte) : (s.setD v).cpu = { s.cpu with d := v } := rfl
@[simp] theorem State.setD_mem (s : State) (v : Byte) : (s.setD v).mem = s.mem := rfl
@[simp] theorem State.setD_rom (s : State) (v : Byte) : (s.setD v).rom = s.rom := rfl
@[simp] theorem State.setD_ram3 (s : State) (v : Byte) : (s.setD v).ram3 = s.ram3 := rfl
@[simp] theorem State.setD_latch (s : State) (v : Byte) : (s.setD v).latch = s.latch := rfl
@[simp] theorem State.setD_ula (s : State) (v : Byte) : (s.setD v).ula = s.ula := rfl
@[simp] theorem State.setD_ay (s : State) (v : Byte) : (s.setD v).ay = s.ay := rfl
@[simp] theorem State.setD_fdc (s : State) (v : Byte) : (s.setD v).fdc = s.fdc := rfl
@[simp] theorem State.setD_tape (s : State) (v : Byte) : (s.setD v).tape = s.tape := rfl
@[simp] theorem State.setD_pending (s : State) (v : Byte) : (s.setD v).pending = s.pending := rfl
@[simp] theorem State.setD_answers (s : State) (v : Byte) : (s.setD v).answers = s.answers := rfl
@[simp] theorem State.setD_draws (s : State) (v : Byte) : (s.setD v).draws = s.draws := rfl
@[simp] theorem State.setD_params (s : State) (v : Byte) : (s.setD v).params = s.params := rfl

@[simp] theorem State.setE_cpu (s : State) (v : Byte) : (s.setE v).cpu = { s.cpu with e := v } := rfl
@[simp] theorem State.setE_mem (s : State) (v : Byte) : (s.setE v).mem = s.mem := rfl
@[simp] theorem State.setE_rom (s : State) (v : Byte) : (s.setE v).rom = s.rom := rfl
@[simp] theorem State.setE_ram3 (s : State) (v : Byte) : (s.setE v).ram3 = s.ram3 := rfl
@[simp] theorem State.setE_latch (s : State) (v : Byte) : (s.setE v).latch = s.latch := rfl
@[simp] theorem State.setE_ula (s : State) (v : Byte) : (s.setE v).ula = s.ula := rfl
@[simp] theorem State.setE_ay (s : State) (v : Byte) : (s.setE v).ay = s.ay := rfl
@[simp] theorem State.setE_fdc (s : State) (v : Byte) : (s.setE v).fdc = s.fdc := rfl
@[simp] theorem State.setE_tape (s : State) (v : Byte) : (s.setE v).tape = s.tape := rfl
@[simp] theorem State.setE_pending (s : State) (v : Byte) : (s.setE v).pending = s.pending := rfl
@[simp] theorem State.setE_answers (s : State) (v : Byte) : (s.setE v).answers = s.answers := rfl
@[simp] theorem State.setE_draws (s : State) (v : Byte) : (s.setE v).draws = s.draws := rfl
@[simp] theorem State.setE_params (s : State) (v : Byte) : (s.setE v).params = s.params := rfl

@[simp] theorem State.setH_cpu (s : State) (v : Byte) : (s.setH v).cpu = { s.cpu with h := v } := rfl
@[simp] theorem State.setH_mem (s : State) (v : Byte) : (s.setH v).mem = s.mem := rfl
@[simp] theorem State.setH_rom (s : State) (v : Byte) : (s.setH v).rom = s.rom := rfl
@[simp] theorem State.setH_ram3 (s : State) (v : Byte) : (s.setH v).ram3 = s.ram3 := rfl
@[simp] theorem State.setH_latch (s : State) (v : Byte) : (s.setH v).latch = s.latch := rfl
@[simp] theorem State.setH_ula (s : State) (v : Byte) : (s.setH v).ula = s.ula := rfl
@[simp] theorem State.setH_ay (s : State) (v : Byte) : (s.setH v).ay = s.ay := rfl
@[simp] theorem State.setH_fdc (s : State) (v : Byte) : (s.setH v).fdc = s.fdc := rfl
@[simp] theorem State.setH_tape (s : State) (v : Byte) : (s.setH v).tape = s.tape := rfl
@[simp] theorem State.setH_pending (s : State) (v : Byte) : (s.setH v).pending = s.pending := rfl
@[simp] theorem State.setH_answers (s : State) (v : Byte) : (s.setH v).answers = s.answers := rfl
@[simp] theorem State.setH_draws (s : State) (v : Byte) : (s.setH v).draws = s.draws := rfl
@[simp] theorem State.setH_params (s : State) (v : Byte) : (s.setH v).params = s.params := rfl

@[simp] theorem State.setL_cpu (s : State) (v : Byte) : (s.setL v).cpu = { s.cpu with l := v } := rfl
@[simp] theorem State.setL_mem (s : State) (v : Byte) : (s.setL v).mem = s.mem := rfl
@[simp] theorem State.setL_rom (s : State) (v : Byte) : (s.setL v).rom = s.rom := rfl
@[simp] theorem State.setL_ram3 (s : State) (v : Byte) : (s.setL v).ram3 = s.ram3 := rfl
@[simp] theorem State.setL_latch (s : State) (v : Byte) : (s.setL v).latch = s.latch := rfl
@[simp] theorem State.setL_ula (s : State) (v : Byte) : (s.setL v).ula = s.ula := rfl
@[simp] theorem State.setL_ay (s : State) (v : Byte) : (s.setL v).ay = s.ay := rfl
@[simp] theorem State.setL_fdc (s : State) (v : Byte) : (s.setL v).fdc = s.fdc := rfl
@[simp] theorem State.setL_tape (s : State) (v : Byte) : (s.setL v).tape = s.tape := rfl
@[simp] theorem State.setL_pending (s : State) (v : Byte) : (s.setL v).pending = s.pending := rfl
@[simp] theorem State.setL_answers (s : State) (v : Byte) : (s.setL v).answers = s.answers := rfl
@[simp] theorem State.setL_draws (s : State) (v : Byte) : (s.setL v).draws = s.draws := rfl
@[simp] theorem State.setL_params (s : State) (v : Byte) : (s.setL v).params = s.params := rfl

@[simp] theorem State.setIx_cpu (s : State) (v : Word) : (s.setIx v).cpu = { s.cpu with ix := v } := rfl
@[simp] theorem State.setIx_mem (s : State) (v : Word) : (s.setIx v).mem = s.mem := rfl
@[simp] theorem State.setIx_rom (s : State) (v : Word) : (s.setIx v).rom = s.rom := rfl
@[simp] theorem State.setIx_ram3 (s : State) (v : Word) : (s.setIx v).ram3 = s.ram3 := rfl
@[simp] theorem State.setIx_latch (s : State) (v : Word) : (s.setIx v).latch = s.latch := rfl
@[simp] theorem State.setIx_ula (s : State) (v : Word) : (s.setIx v).ula = s.ula := rfl
@[simp] theorem State.setIx_ay (s : State) (v : Word) : (s.setIx v).ay = s.ay := rfl
@[simp] theorem State.setIx_fdc (s : State) (v : Word) : (s.setIx v).fdc = s.fdc := rfl
@[simp] theorem State.setIx_tape (s : State) (v : Word) : (s.setIx v).tape = s.tape := rfl
@[simp] theorem State.setIx_pending (s : State) (v : Word) : (s.setIx v).pending = s.pending := rfl
@[simp] theorem State.setIx_answers (s : State) (v : Word) : (s.setIx v).answers = s.answers := rfl
@[simp] theorem State.setIx_draws (s : State) (v : Word) : (s.setIx v).draws = s.draws := rfl
@[simp] theorem State.setIx_params (s : State) (v : Word) : (s.setIx v).params = s.params := rfl

@[simp] theorem State.setIy_cpu (s : State) (v : Word) : (s.setIy v).cpu = { s.cpu with iy := v } := rfl
@[simp] theorem State.setIy_mem (s : State) (v : Word) : (s.setIy v).mem = s.mem := rfl
@[simp] theorem State.setIy_rom (s : State) (v : Word) : (s.setIy v).rom = s.rom := rfl
@[simp] theorem State.setIy_ram3 (s : State) (v : Word) : (s.setIy v).ram3 = s.ram3 := rfl
@[simp] theorem State.setIy_latch (s : State) (v : Word) : (s.setIy v).latch = s.latch := rfl
@[simp] theorem State.setIy_ula (s : State) (v : Word) : (s.setIy v).ula = s.ula := rfl
@[simp] theorem State.setIy_ay (s : State) (v : Word) : (s.setIy v).ay = s.ay := rfl
@[simp] theorem State.setIy_fdc (s : State) (v : Word) : (s.setIy v).fdc = s.fdc := rfl
@[simp] theorem State.setIy_tape (s : State) (v : Word) : (s.setIy v).tape = s.tape := rfl
@[simp] theorem State.setIy_pending (s : State) (v : Word) : (s.setIy v).pending = s.pending := rfl
@[simp] theorem State.setIy_answers (s : State) (v : Word) : (s.setIy v).answers = s.answers := rfl
@[simp] theorem State.setIy_draws (s : State) (v : Word) : (s.setIy v).draws = s.draws := rfl
@[simp] theorem State.setIy_params (s : State) (v : Word) : (s.setIy v).params = s.params := rfl

@[simp] theorem State.setSp_cpu (s : State) (v : Word) : (s.setSp v).cpu = { s.cpu with sp := v } := rfl
@[simp] theorem State.setSp_mem (s : State) (v : Word) : (s.setSp v).mem = s.mem := rfl
@[simp] theorem State.setSp_rom (s : State) (v : Word) : (s.setSp v).rom = s.rom := rfl
@[simp] theorem State.setSp_ram3 (s : State) (v : Word) : (s.setSp v).ram3 = s.ram3 := rfl
@[simp] theorem State.setSp_latch (s : State) (v : Word) : (s.setSp v).latch = s.latch := rfl
@[simp] theorem State.setSp_ula (s : State) (v : Word) : (s.setSp v).ula = s.ula := rfl
@[simp] theorem State.setSp_ay (s : State) (v : Word) : (s.setSp v).ay = s.ay := rfl
@[simp] theorem State.setSp_fdc (s : State) (v : Word) : (s.setSp v).fdc = s.fdc := rfl
@[simp] theorem State.setSp_tape (s : State) (v : Word) : (s.setSp v).tape = s.tape := rfl
@[simp] theorem State.setSp_pending (s : State) (v : Word) : (s.setSp v).pending = s.pending := rfl
@[simp] theorem State.setSp_answers (s : State) (v : Word) : (s.setSp v).answers = s.answers := rfl
@[simp] theorem State.setSp_draws (s : State) (v : Word) : (s.setSp v).draws = s.draws := rfl
@[simp] theorem State.setSp_params (s : State) (v : Word) : (s.setSp v).params = s.params := rfl

@[simp] theorem State.setPc_cpu (s : State) (v : Word) : (s.setPc v).cpu = { s.cpu with pc := v } := rfl
@[simp] theorem State.setPc_mem (s : State) (v : Word) : (s.setPc v).mem = s.mem := rfl
@[simp] theorem State.setPc_rom (s : State) (v : Word) : (s.setPc v).rom = s.rom := rfl
@[simp] theorem State.setPc_ram3 (s : State) (v : Word) : (s.setPc v).ram3 = s.ram3 := rfl
@[simp] theorem State.setPc_latch (s : State) (v : Word) : (s.setPc v).latch = s.latch := rfl
@[simp] theorem State.setPc_ula (s : State) (v : Word) : (s.setPc v).ula = s.ula := rfl
@[simp] theorem State.setPc_ay (s : State) (v : Word) : (s.setPc v).ay = s.ay := rfl
@[simp] theorem State.setPc_fdc (s : State) (v : Word) : (s.setPc v).fdc = s.fdc := rfl
@[simp] theorem State.setPc_tape (s : State) (v : Word) : (s.setPc v).tape = s.tape := rfl
@[simp] theorem State.setPc_pending (s : State) (v : Word) : (s.setPc v).pending = s.pending := rfl
@[simp] theorem State.setPc_answers (s : State) (v : Word) : (s.setPc v).answers = s.answers := rfl
@[simp] theorem State.setPc_draws (s : State) (v : Word) : (s.setPc v).draws = s.draws := rfl
@[simp] theorem State.setPc_params (s : State) (v : Word) : (s.setPc v).params = s.params := rfl

@[simp] theorem State.setMemptr_cpu (s : State) (v : Word) : (s.setMemptr v).cpu = { s.cpu with memptr := v } := rfl
@[simp] theorem State.setMemptr_mem (s : State) (v : Word) : (s.setMemptr v).mem = s.mem := rfl
@[simp] theorem State.setMemptr_rom (s : State) (v : Word) : (s.setMemptr v).rom = s.rom := rfl
@[simp] theorem State.setMemptr_ram3 (s : State) (v : Word) : (s.setMemptr v).ram3 = s.ram3 := rfl
@[simp] theorem State.setMemptr_latch (s : State) (v : Word) : (s.setMemptr v).latch = s.latch := rfl
@[simp] theorem State.setMemptr_ula (s : State) (v : Word) : (s.setMemptr v).ula = s.ula := rfl
@[simp] theorem State.setMemptr_ay (s : State) (v : Word) : (s.setMemptr v).ay = s.ay := rfl
@[simp] theorem State.setMemptr_fdc (s : State) (v : Word) : (s.setMemptr v).fdc = s.fdc := rfl
@[simp] theorem State.setMemptr_tape (s : State) (v : Word) : (s.setMemptr v).tape = s.tape := rfl
@[simp] theorem State.setMemptr_pending (s : State) (v : Word) : (s.setMemptr v).pending = s.pending := rfl
@[simp] theorem State.setMemptr_answers (s : State) (v : Word) : (s.setMemptr v).answers = s.answers := rfl
@[simp] theorem State.setMemptr_draws (s : State) (v : Word) : (s.setMemptr v).draws = s.draws := rfl
@[simp] theorem State.setMemptr_params (s : State) (v : Word) : (s.setMemptr v).params = s.params := rfl

@[simp] theorem State.setI_cpu (s : State) (v : Byte) : (s.setI v).cpu = { s.cpu with i := v } := rfl
@[simp] theorem State.setI_mem (s : State) (v : Byte) : (s.setI v).mem = s.mem := rfl
@[simp] theorem State.setI_rom (s : State) (v : Byte) : (s.setI v).rom = s.rom := rfl
@[simp] theorem State.setI_ram3 (s : State) (v : Byte) : (s.setI v).ram3 = s.ram3 := rfl
@[simp] theorem State.setI_latch (s : State) (v : Byte) : (s.setI v).latch = s.latch := rfl
@[simp] theorem State.setI_ula (s : State) (v : Byte) : (s.setI v).ula = s.ula := rfl
@[simp] theorem State.setI_ay (s : State) (v : Byte) : (s.setI v).ay = s.ay := rfl
@[simp] theorem State.setI_fdc (s : State) (v : Byte) : (s.setI v).fdc = s.fdc := rfl
@[simp] theorem State.setI_tape (s : State) (v : Byte) : (s.setI v).tape = s.tape := rfl
@[simp] theorem State.setI_pending (s : State) (v : Byte) : (s.setI v).pending = s.pending := rfl
@[simp] theorem State.setI_answers (s : State) (v : Byte) : (s.setI v).answers = s.answers := rfl
@[simp] theorem State.setI_draws (s : State) (v : Byte) : (s.setI v).draws = s.draws := rfl
@[simp] theorem State.setI_params (s : State) (v : Byte) : (s.setI v).params = s.params := rfl

@[simp] theorem State.setIff1_cpu (s : State) (v : Bool) : (s.setIff1 v).cpu = { s.cpu with iff1 := v } := rfl
@[simp] theorem State.setIff1_mem (s : State) (v : Bool) : (s.setIff1 v).mem = s.mem := rfl
@[simp] theorem State.setIff1_rom (s : State) (v : Bool) : (s.setIff1 v).rom = s.rom := rfl
@[simp] theorem State.setIff1_ram3 (s : State) (v : Bool) : (s.setIff1 v).ram3 = s.ram3 := rfl
@[simp] theorem State.setIff1_latch (s : State) (v : Bool) : (s.setIff1 v).latch = s.latch := rfl
@[simp] theorem State.setIff1_ula (s : State) (v : Bool) : (s.setIff1 v).ula = s.ula := rfl
@[simp] theorem State.setIff1_ay (s : State) (v : Bool) : (s.setIff1 v).ay = s.ay := rfl
@[simp] theorem State.setIff1_fdc (s : State) (v : Bool) : (s.setIff1 v).fdc = s.fdc := rfl
@[simp] theorem State.setIff1_tape (s : State) (v : Bool) : (s.setIff1 v).tape = s.tape := rfl
@[simp] theorem State.setIff1_pending (s : State) (v : Bool) : (s.setIff1 v).pending = s.pending := rfl
@[simp] theorem State.setIff1_answers (s : State) (v : Bool) : (s.setIff1 v).answers = s.answers := rfl
@[simp] theorem State.setIff1_draws (s : State) (v : Bool) : (s.setIff1 v).draws = s.draws := rfl
@[simp] theorem State.setIff1_params (s : State) (v : Bool) : (s.setIff1 v).params = s.params := rfl

@[simp] theorem State.setIff2_cpu (s : State) (v : Bool) : (s.setIff2 v).cpu = { s.cpu with iff2 := v } := rfl
@[simp] theorem State.setIff2_mem (s : State) (v : Bool) : (s.setIff2 v).mem = s.mem := rfl
@[simp] theorem State.setIff2_rom (s : State) (v : Bool) : (s.setIff2 v).rom = s.rom := rfl
@[simp] theorem State.setIff2_ram3 (s : State) (v : Bool) : (s.setIff2 v).ram3 = s.ram3 := rfl
@[simp] theorem State.setIff2_latch (s : State) (v : Bool) : (s.setIff2 v).latch = s.latch := rfl
@[simp] theorem State.setIff2_ula (s : State) (v : Bool) : (s.setIff2 v).ula = s.ula := rfl
@[simp] theorem State.setIff2_ay (s : State) (v : Bool) : (s.setIff2 v).ay = s.ay := rfl
@[simp] theorem State.setIff2_fdc (s : State) (v : Bool) : (s.setIff2 v).fdc = s.fdc := rfl
@[simp] theorem State.setIff2_tape (s : State) (v : Bool) : (s.setIff2 v).tape = s.tape := rfl
@[simp] theorem State.setIff2_pending (s : State) (v : Bool) : (s.setIff2 v).pending = s.pending := rfl
@[simp] theorem State.setIff2_answers (s : State) (v : Bool) : (s.setIff2 v).answers = s.answers := rfl
@[simp] theorem State.setIff2_draws (s : State) (v : Bool) : (s.setIff2 v).draws = s.draws := rfl
@[simp] theorem State.setIff2_params (s : State) (v : Bool) : (s.setIff2 v).params = s.params := rfl

@[simp] theorem State.setIm_cpu (s : State) (v : IntMode) : (s.setIm v).cpu = { s.cpu with im := v } := rfl
@[simp] theorem State.setIm_mem (s : State) (v : IntMode) : (s.setIm v).mem = s.mem := rfl
@[simp] theorem State.setIm_rom (s : State) (v : IntMode) : (s.setIm v).rom = s.rom := rfl
@[simp] theorem State.setIm_ram3 (s : State) (v : IntMode) : (s.setIm v).ram3 = s.ram3 := rfl
@[simp] theorem State.setIm_latch (s : State) (v : IntMode) : (s.setIm v).latch = s.latch := rfl
@[simp] theorem State.setIm_ula (s : State) (v : IntMode) : (s.setIm v).ula = s.ula := rfl
@[simp] theorem State.setIm_ay (s : State) (v : IntMode) : (s.setIm v).ay = s.ay := rfl
@[simp] theorem State.setIm_fdc (s : State) (v : IntMode) : (s.setIm v).fdc = s.fdc := rfl
@[simp] theorem State.setIm_tape (s : State) (v : IntMode) : (s.setIm v).tape = s.tape := rfl
@[simp] theorem State.setIm_pending (s : State) (v : IntMode) : (s.setIm v).pending = s.pending := rfl
@[simp] theorem State.setIm_answers (s : State) (v : IntMode) : (s.setIm v).answers = s.answers := rfl
@[simp] theorem State.setIm_draws (s : State) (v : IntMode) : (s.setIm v).draws = s.draws := rfl
@[simp] theorem State.setIm_params (s : State) (v : IntMode) : (s.setIm v).params = s.params := rfl

@[simp] theorem State.setHalted_cpu (s : State) (v : Bool) : (s.setHalted v).cpu = { s.cpu with halted := v } := rfl
@[simp] theorem State.setHalted_mem (s : State) (v : Bool) : (s.setHalted v).mem = s.mem := rfl
@[simp] theorem State.setHalted_rom (s : State) (v : Bool) : (s.setHalted v).rom = s.rom := rfl
@[simp] theorem State.setHalted_ram3 (s : State) (v : Bool) : (s.setHalted v).ram3 = s.ram3 := rfl
@[simp] theorem State.setHalted_latch (s : State) (v : Bool) : (s.setHalted v).latch = s.latch := rfl
@[simp] theorem State.setHalted_ula (s : State) (v : Bool) : (s.setHalted v).ula = s.ula := rfl
@[simp] theorem State.setHalted_ay (s : State) (v : Bool) : (s.setHalted v).ay = s.ay := rfl
@[simp] theorem State.setHalted_fdc (s : State) (v : Bool) : (s.setHalted v).fdc = s.fdc := rfl
@[simp] theorem State.setHalted_tape (s : State) (v : Bool) : (s.setHalted v).tape = s.tape := rfl
@[simp] theorem State.setHalted_pending (s : State) (v : Bool) : (s.setHalted v).pending = s.pending := rfl
@[simp] theorem State.setHalted_answers (s : State) (v : Bool) : (s.setHalted v).answers = s.answers := rfl
@[simp] theorem State.setHalted_draws (s : State) (v : Bool) : (s.setHalted v).draws = s.draws := rfl
@[simp] theorem State.setHalted_params (s : State) (v : Bool) : (s.setHalted v).params = s.params := rfl

@[simp] theorem State.setIntBlock_cpu (s : State) (v : Bool) : (s.setIntBlock v).cpu = { s.cpu with intBlock := v } := rfl
@[simp] theorem State.setIntBlock_mem (s : State) (v : Bool) : (s.setIntBlock v).mem = s.mem := rfl
@[simp] theorem State.setIntBlock_rom (s : State) (v : Bool) : (s.setIntBlock v).rom = s.rom := rfl
@[simp] theorem State.setIntBlock_ram3 (s : State) (v : Bool) : (s.setIntBlock v).ram3 = s.ram3 := rfl
@[simp] theorem State.setIntBlock_latch (s : State) (v : Bool) : (s.setIntBlock v).latch = s.latch := rfl
@[simp] theorem State.setIntBlock_ula (s : State) (v : Bool) : (s.setIntBlock v).ula = s.ula := rfl
@[simp] theorem State.setIntBlock_ay (s : State) (v : Bool) : (s.setIntBlock v).ay = s.ay := rfl
@[simp] theorem State.setIntBlock_fdc (s : State) (v : Bool) : (s.setIntBlock v).fdc = s.fdc := rfl
@[simp] theorem State.setIntBlock_tape (s : State) (v : Bool) : (s.setIntBlock v).tape = s.tape := rfl
@[simp] theorem State.setIntBlock_pending (s : State) (v : Bool) : (s.setIntBlock v).pending = s.pending := rfl
@[simp] theorem State.setIntBlock_answers (s : State) (v : Bool) : (s.setIntBlock v).answers = s.answers := rfl
@[simp] theorem State.setIntBlock_draws (s : State) (v : Bool) : (s.setIntBlock v).draws = s.draws := rfl
@[simp] theorem State.setIntBlock_params (s : State) (v : Bool) : (s.setIntBlock v).params = s.params := rfl

@[simp] theorem State.tick_cpu (s : State) (n : Nat) : (s.tick n).cpu = { s.cpu with clk := s.cpu.clk + (n : Int) } := rfl
@[simp] theorem State.tick_mem (s : State) (n : Nat) : (s.tick n).mem = s.mem := rfl
@[simp] theorem State.tick_rom (s : State) (n : Nat) : (s.tick n).rom = s.rom := rfl
@[simp] theorem State.tick_ram3 (s : State) (n : Nat) : (s.tick n).ram3 = s.ram3 := rfl
@[simp] theorem State.tick_latch (s : State) (n : Nat) : (s.tick n).latch = s.latch := rfl
@[simp] theorem State.tick_ula (s : State) (n : Nat) : (s.tick n).ula = s.ula := rfl
@[simp] theorem State.tick_ay (s : State) (n : Nat) : (s.tick n).ay = s.ay := rfl
@[simp] theorem State.tick_fdc (s : State) (n : Nat) : (s.tick n).fdc = s.fdc := rfl
@[simp] theorem State.tick_tape (s : State) (n : Nat) : (s.tick n).tape = s.tape := rfl
@[simp] theorem State.tick_pending (s : State) (n : Nat) : (s.tick n).pending = s.pending := rfl
@[simp] theorem State.tick_answers (s : State) (n : Nat) : (s.tick n).answers = s.answers := rfl
@[simp] theorem State.tick_draws (s : State) (n : Nat) : (s.tick n).draws = s.draws := rfl
@[simp] theorem State.tick_params (s : State) (n : Nat) : (s.tick n).params = s.params := rfl

@[simp] theorem State.setR_cpu (s : State) (v : Byte) : (s.setR v).cpu = { s.cpu with rhi := v.getLsbD 7, rlo := v.extractLsb' 0 7 } := rfl
@[simp] theorem State.setR_mem (s : State) (v : Byte) : (s.setR v).mem = s.mem := rfl
@[simp] theorem State.setR_rom (s : State) (v : Byte) : (s.setR v).rom = s.rom := rfl
@[simp] theorem State.setR_ram3 (s : State) (v : Byte) : (s.setR v).ram3 = s.ram3 := rfl
@[simp] theorem State.setR_latch (s : State) (v : Byte) : (s.setR v).latch = s.latch := rfl
@[simp] theorem State.setR_ula (s : State) (v : Byte) : (s.setR v).ula = s.ula := rfl
@[simp] theorem State.setR_ay (s : State) (v : Byte) : (s.setR v).ay = s.ay := rfl
@[simp] theorem State.setR_fdc (s : State) (v : Byte) : (s.setR v).fdc = s.fdc := rfl
@[simp] theorem State.setR_tape (s : State) (v : Byte) : (s.setR v).tape = s.tape := rfl
@[simp] theorem State.setR_pending (s : State) (v : Byte) : (s.setR v).pending = s.pending := rfl
@[simp] theorem State.setR_answers (s : State) (v : Byte) : (s.setR v).answers = s.answers := rfl
@[simp] theorem State.setR_draws (s : State) (v : Byte) : (s.setR v).draws = s.draws := rfl
@[simp] theorem State.setR_params (s : State) (v : Byte) : (s.setR v).params = s.params := rfl

@[simp] theorem State.refresh_cpu (s : State) (n : Nat) : (s.refresh n).cpu = { s.cpu with rlo := s.cpu.rlo + BitVec.ofNat 7 n } := rfl
@[simp] theorem State.refresh_mem (s : State) (n : Nat) : (s.refresh n).mem = s.mem := rfl
@[simp] theorem State.refresh_rom (s : State) (n : Nat) : (s.refresh n).rom = s.rom := rfl
@[simp] theorem State.refresh_ram3 (s : State) (n : Nat) : (s.refresh n).ram3 = s.ram3 := rfl
@[simp] theorem State.refresh_latch (s : State) (n : Nat) : (s.refresh n).latch = s.latch := rfl
@[simp] theorem State.refresh_ula (s : State) (n : Nat) : (s.refresh n).ula = s.ula := rfl
@[simp] theorem State.refresh_ay (s : State) (n : Nat) : (s.refresh n).ay = s.ay := rfl
@[simp] theorem State.refresh_fdc (s : State) (n : Nat) : (s.refresh n).fdc = s.fdc := rfl
@[simp] theorem State.refresh_tape (s : State) (n : Nat) : (s.refresh n).tape = s.tape := rfl
@[simp] theorem State.refresh_pending (s : State) (n : Nat) : (s.refresh n).pending = s.pending := rfl
@[simp] theorem State.refresh_answers (s : State) (n : Nat) : (s.refresh n).answers = s.answers := rfl
@[simp] theorem State.refresh_draws (s : State) (n : Nat) : (s.refresh n).draws = s.draws := rfl
@[simp] theorem State.refresh_params (s : State) (n : Nat) : (s.refresh n).params = s.params := rfl

@[simp] theorem State.setBc_cpu (s : State) (v : Word) : (s.setBc v).cpu = { s.cpu with b := v.hi, c := v.lo } := rfl
@[simp] theorem State.setBc_mem (s : State) (v : Word) : (s.setBc v).mem = s.mem := rfl
@[simp] theorem State.setBc_rom (s : State) (v : Word) : (s.setBc v).rom = s.rom := rfl
@[simp] theorem State.setBc_ram3 (s : State) (v : Word) : (s.setBc v).ram3 = s.ram3 := rfl
@[simp] theorem State.setBc_latch (s : State) (v : Word) : (s.setBc v).latch = s.latch := rfl
@[simp] theorem State.setBc_ula (s : State) (v : Word) : (s.setBc v).ula = s.ula := rfl
@[simp] theorem State.setBc_ay (s : State) (v : Word) : (s.setBc v).ay = s.ay := rfl
@[simp] theorem State.setBc_fdc (s : State) (v : Word) : (s.setBc v).fdc = s.fdc := rfl
@[simp] theorem State.setBc_tape (s : State) (v : Word) : (s.setBc v).tape = s.tape := rfl
@[simp] theorem State.setBc_pending (s : State) (v : Word) : (s.setBc v).pending = s.pending := rfl
@[simp] theorem State.setBc_answers (s : State) (v : Word) : (s.setBc v).answers = s.answers := rfl
@[simp] theorem State.setBc_draws (s : State) (v : Word) : (s.setBc v).draws = s.draws := rfl
@[simp] theorem State.setBc_params (s : State) (v : Word) : (s.setBc v).params = s.params := rfl

@[simp] theorem State.setDe_cpu (s : State) (v : Word) : (s.setDe v).cpu = { s.cpu with d := v.hi, e := v.lo } := rfl
@[simp] theorem State.setDe_mem (s : State) (v : Word) : (s.setDe v).mem = s.mem := rfl
@[simp] theorem State.setDe_rom (s : State) (v : Word) : (s.setDe v).rom = s.rom := rfl
@[simp] theorem State.setDe_ram3 (s : State) (v : Word) : (s.setDe v).ram3 = s.ram3 := rfl
@[simp] theorem State.setDe_latch (s : State) (v : Word) : (s.setDe v).latch = s.latch := rfl
@[simp] theorem State.setDe_ula (s : State) (v : Word) : (s.setDe v).ula = s.ula := rfl
@[simp] theorem State.setDe_ay (s : State) (v : Word) : (s.setDe v).ay = s.ay := rfl
@[simp] theorem State.setDe_fdc (s : State) (v : Word) : (s.setDe v).fdc = s.fdc := rfl
@[simp] theorem State.setDe_tape (s : State) (v : Word) : (s.setDe v).tape = s.tape := rfl
@[simp] theorem State.setDe_pending (s : State) (v : Word) : (s.setDe v).pending = s.pending := rfl
@[simp] theorem State.setDe_answers (s : State) (v : Word) : (s.setDe v).answers = s.answers := rfl
@[simp] theorem State.setDe_draws (s : State) (v : Word) : (s.setDe v).draws = s.draws := rfl
@[simp] theorem State.setDe_params (s : State) (v : Word) : (s.setDe v).params = s.params := rfl

@[simp] theorem State.setHl_cpu (s : State) (v : Word) : (s.setHl v).cpu = { s.cpu with h := v.hi, l := v.lo } := rfl
@[simp] theorem State.setHl_mem (s : State) (v : Word) : (s.setHl v).mem = s.mem := rfl
@[simp] theorem State.setHl_rom (s : State) (v : Word) : (s.setHl v).rom = s.rom := rfl
@[simp] theorem State.setHl_ram3 (s : State) (v : Word) : (s.setHl v).ram3 = s.ram3 := rfl
@[simp] theorem State.setHl_latch (s : State) (v : Word) : (s.setHl v).latch = s.latch := rfl
@[simp] theorem State.setHl_ula (s : State) (v : Word) : (s.setHl v).ula = s.ula := rfl
@[simp] theorem State.setHl_ay (s : State) (v : Word) : (s.setHl v).ay = s.ay := rfl
@[simp] theorem State.setHl_fdc (s : State) (v : Word) : (s.setHl v).fdc = s.fdc := rfl
@[simp] theorem State.setHl_tape (s : State) (v : Word) : (s.setHl v).tape = s.tape := rfl
@[simp] theorem State.setHl_pending (s : State) (v : Word) : (s.setHl v).pending = s.pending := rfl
@[simp] theorem State.setHl_answers (s : State) (v : Word) : (s.setHl v).answers = s.answers := rfl
@[simp] theorem State.setHl_draws (s : State) (v : Word) : (s.setHl v).draws = s.draws := rfl
@[simp] theorem State.setHl_params (s : State) (v : Word) : (s.setHl v).params = s.params := rfl

@[simp] theorem State.setAf_cpu (s : State) (v : Word) : (s.setAf v).cpu = { s.cpu with a := v.hi, f := v.lo } := rfl
@[simp] theorem State.setAf_mem (s : State) (v : Word) : (s.setAf v).mem = s.mem := rfl
@[simp] theorem State.setAf_rom (s : State) (v : Word) : (s.setAf v).rom = s.rom := rfl
@[simp] theorem State.setAf_ram3 (s : State) (v : Word) : (s.setAf v).ram3 = s.ram3 := rfl
@[simp] theorem State.setAf_latch (s : State) (v : Word) : (s.setAf v).latch = s.latch := rfl
@[simp] theorem State.setAf_ula (s : State) (v : Word) : (s.setAf v).ula = s.ula := rfl
@[simp] theorem State.setAf_ay (s : State) (v : Word) : (s.setAf v).ay = s.ay := rfl
@[simp] theorem State.setAf_fdc (s : State) (v : Word) : (s.setAf v).fdc = s.fdc := rfl
@[simp] theorem State.setAf_tape (s : State) (v : Word) : (s.setAf v).tape = s.tape := rfl
@[simp] theorem State.setAf_pending (s : State) (v : Word) : (s.setAf v).pending = s.pending := rfl
@[simp] theorem State.setAf_answers (s : State) (v : Word) : (s.setAf v).answers = s.answers := rfl
@[simp] theorem State.setAf_draws (s : State) (v : Word) : (s.setAf v).draws = s.draws := rfl
@[simp] theorem State.setAf_params (s : State) (v : Word) : (s.setAf v).params = s.params := rfl

@[simp] theorem State.jump_cpu (s : State) (w : Word) : (s.jump w).cpu = { s.cpu with pc := w, memptr := w } := rfl
@[simp] theorem State.jump_mem (s : State) (w : Word) : (s.jump w).mem = s.mem := rfl
@[simp] theorem State.jump_rom (s : State) (w : Word) : (s.jump w).rom = s.rom := rfl
@[simp] theorem State.jump_ram3 (s : State) (w : Word) : (s.jump w).ram3 = s.ram3 := rfl
@[simp] theorem State.jump_latch (s : State) (w : Word) : (s.jump w).latch = s.latch := rfl
@[simp] theorem State.jump_ula (s : State) (w : Word) : (s.jump w).ula = s.ula := rfl
@[simp] theorem State.jump_ay (s : State) (w : Word) : (s.jump w).ay = s.ay := rfl
@[simp] theorem State.jump_fdc (s : State) (w : Word) : (s.jump w).fdc = s.fdc := rfl
@[simp] theorem State.jump_tape (s : State) (w : Word) : (s.jump w).tape = s.tape := rfl
@[simp] theorem State.jump_pending (s : State) (w : Word) : (s.jump w).pending = s.pending := rfl
@[simp] theorem State.jump_answers (s : State) (w : Word) : (s.jump w).answers = s.answers := rfl
@[simp] theorem State.jump_draws (s : State) (w : Word) : (s.jump w).draws = s.draws := rfl
@[simp] theorem State.jump_params (s : State) (w : Word) : (s.jump w).params = s.params := rfl

@[simp] theorem State.popSp_cpu (s : State) : (s.popSp).cpu = { s.cpu with sp := s.cpu.sp + 2 } := rfl
@[simp] theorem State.popSp_mem (s : State) : (s.popSp).mem = s.mem := rfl
@[simp] theorem State.popSp_rom (s : State) : (s.popSp).rom = s.rom := rfl
@[simp] theorem State.popSp_ram3 (s : State) : (s.popSp).ram3 = s.ram3 := rfl
@[simp] theorem State.popSp_latch (s : State) : (s.popSp).latch = s.latch := rfl
@[simp] theorem State.popSp_ula (s : State) : (s.popSp).ula = s.ula := rfl
@[simp] theorem State.popSp_ay (s : State) : (s.popSp).ay = s.ay := rfl
@[simp] theorem State.popSp_fdc (s : State) : (s.popSp).fdc = s.fdc := rfl
@[simp] theorem State.popSp_tape (s : State) : (s.popSp).tape = s.tape := rfl
@[simp] theorem State.popSp_pending (s : State) : (s.popSp).pending = s.pending := rfl
@[simp] theorem State.popSp_answers (s : State) : (s.popSp).answers = s.answers := rfl
@[simp] theorem State.popSp_draws (s : State) : (s.popSp).draws = s.draws := rfl
@[simp] theorem State.popSp_params (s : State) : (s.popSp).params = s.params := rfl

@[simp] theorem State.popPc_cpu (s : State) : (s.popPc).cpu = { s.cpu with sp := s.cpu.sp + 2, pc := s.popped, memptr := s.popped } := rfl
@[simp] theorem State.popPc_mem (s : State) : (s.popPc).mem = s.mem := rfl
@[simp] theorem State.popPc_rom (s : State) : (s.popPc).rom = s.rom := rfl
@[simp] theorem State.popPc_ram3 (s : State) : (s.popPc).ram3 = s.ram3 := rfl
@[simp] theorem State.popPc_latch (s : State) : (s.popPc).latch = s.latch := rfl
@[simp] theorem State.popPc_ula (s : State) : (s.popPc).ula = s.ula := rfl
@[simp] theorem State.popPc_ay (s : State) : (s.popPc).ay = s.ay := rfl
@[simp] theorem State.popPc_fdc (s : State) : (s.popPc).fdc = s.fdc := rfl
@[simp] theorem State.popPc_tape (s : State) : (s.popPc).tape = s.tape := rfl
@[simp] theorem State.popPc_pending (s : State) : (s.popPc).pending = s.pending := rfl
@[simp] theorem State.popPc_answers (s : State) : (s.popPc).answers = s.answers := rfl
@[simp] theorem State.popPc_draws (s : State) : (s.popPc).draws = s.draws := rfl
@[simp] theorem State.popPc_params (s : State) : (s.popPc).params = s.params := rfl

@[simp] theorem State.repeatPc_cpu (s : State) : (s.repeatPc).cpu = { s.cpu with pc := s.cpu.pc - 2 } := rfl
@[simp] theorem State.repeatPc_mem (s : State) : (s.repeatPc).mem = s.mem := rfl
@[simp] theorem State.repeatPc_rom (s : State) : (s.repeatPc).rom = s.rom := rfl
@[simp] theorem State.repeatPc_ram3 (s : State) : (s.repeatPc).ram3 = s.ram3 := rfl
@[simp] theorem State.repeatPc_latch (s : State) : (s.repeatPc).latch = s.latch := rfl
@[simp] theorem State.repeatPc_ula (s : State) : (s.repeatPc).ula = s.ula := rfl
@[simp] theorem State.repeatPc_ay (s : State) : (s.repeatPc).ay = s.ay := rfl
@[simp] theorem State.repeatPc_fdc (s : State) : (s.repeatPc).fdc = s.fdc := rfl
@[simp] theorem State.repeatPc_tape (s : State) : (s.repeatPc).tape = s.tape := rfl
@[simp] theorem State.repeatPc_pending (s : State) : (s.repeatPc).pending = s.pending := rfl
@[simp] theorem State.repeatPc_answers (s : State) : (s.repeatPc).answers = s.answers := rfl
@[simp] theorem State.repeatPc_draws (s : State) : (s.repeatPc).draws = s.draws := rfl
@[simp] theorem State.repeatPc_params (s : State) : (s.repeatPc).params = s.params := rfl

@[simp] theorem State.swapAf_cpu (s : State) : (s.swapAf).cpu = { s.cpu with a := s.cpu.a', f := s.cpu.f', a' := s.cpu.a, f' := s.cpu.f } := rfl
@[simp] theorem State.swapAf_mem (s : State) : (s.swapAf).mem = s.mem := rfl
@[simp] theorem State.swapAf_rom (s : State) : (s.swapAf).rom = s.rom := rfl
@[simp] theorem State.swapAf_ram3 (s : State) : (s.swapAf).ram3 = s.ram3 := rfl
@[simp] theorem State.swapAf_latch (s : State) : (s.swapAf).latch = s.latch := rfl
@[simp] theorem State.swapAf_ula (s : State) : (s.swapAf).ula = s.ula := rfl
@[simp] theorem State.swapAf_ay (s : State) : (s.swapAf).ay = s.ay := rfl
@[simp] theorem State.swapAf_fdc (s : State) : (s.swapAf).fdc = s.fdc := rfl
@[simp] theorem State.swapAf_tape (s : State) : (s.swapAf).tape = s.tape := rfl
@[simp] theorem State.swapAf_pending (s : State) : (s.swapAf).pending = s.pending := rfl
@[simp] theorem State.swapAf_answers (s : State) : (s.swapAf).answers = s.answers := rfl
@[simp] theorem State.swapAf_draws (s : State) : (s.swapAf).draws = s.draws := rfl
@[simp] theorem State.swapAf_params (s : State) : (s.swapAf).params = s.params := rfl

@[simp] theorem State.swapBank_cpu (s : State) :
    s.swapBank.cpu =
      { s.cpu with
        b := s.cpu.b', c := s.cpu.c', d := s.cpu.d', e := s.cpu.e', h := s.cpu.h', l := s.cpu.l'
        b' := s.cpu.b, c' := s.cpu.c, d' := s.cpu.d, e' := s.cpu.e, h' := s.cpu.h, l' := s.cpu.l } := rfl
@[simp] theorem State.swapBank_mem (s : State) : (s.swapBank).mem = s.mem := rfl
@[simp] theorem State.swapBank_rom (s : State) : (s.swapBank).rom = s.rom := rfl
@[simp] theorem State.swapBank_ram3 (s : State) : (s.swapBank).ram3 = s.ram3 := rfl
@[simp] theorem State.swapBank_latch (s : State) : (s.swapBank).latch = s.latch := rfl
@[simp] theorem State.swapBank_ula (s : State) : (s.swapBank).ula = s.ula := rfl
@[simp] theorem State.swapBank_ay (s : State) : (s.swapBank).ay = s.ay := rfl
@[simp] theorem State.swapBank_fdc (s : State) : (s.swapBank).fdc = s.fdc := rfl
@[simp] theorem State.swapBank_tape (s : State) : (s.swapBank).tape = s.tape := rfl
@[simp] theorem State.swapBank_pending (s : State) : (s.swapBank).pending = s.pending := rfl
@[simp] theorem State.swapBank_answers (s : State) : (s.swapBank).answers = s.answers := rfl
@[simp] theorem State.swapBank_draws (s : State) : (s.swapBank).draws = s.draws := rfl
@[simp] theorem State.swapBank_params (s : State) : (s.swapBank).params = s.params := rfl

@[simp] theorem State.setReg8_mem (s : State) (r : Reg8) (v : Byte) : (s.setReg8 r v).mem = s.mem := by cases r <;> rfl
@[simp] theorem State.setReg8_rom (s : State) (r : Reg8) (v : Byte) : (s.setReg8 r v).rom = s.rom := by cases r <;> rfl
@[simp] theorem State.setReg8_ram3 (s : State) (r : Reg8) (v : Byte) : (s.setReg8 r v).ram3 = s.ram3 := by cases r <;> rfl
@[simp] theorem State.setReg8_latch (s : State) (r : Reg8) (v : Byte) : (s.setReg8 r v).latch = s.latch := by cases r <;> rfl
@[simp] theorem State.setReg8_ula (s : State) (r : Reg8) (v : Byte) : (s.setReg8 r v).ula = s.ula := by cases r <;> rfl
@[simp] theorem State.setReg8_ay (s : State) (r : Reg8) (v : Byte) : (s.setReg8 r v).ay = s.ay := by cases r <;> rfl
@[simp] theorem State.setReg8_fdc (s : State) (r : Reg8) (v : Byte) : (s.setReg8 r v).fdc = s.fdc := by cases r <;> rfl
@[simp] theorem State.setReg8_tape (s : State) (r : Reg8) (v : Byte) : (s.setReg8 r v).tape = s.tape := by cases r <;> rfl
@[simp] theorem State.setReg8_pending (s : State) (r : Reg8) (v : Byte) : (s.setReg8 r v).pending = s.pending := by cases r <;> rfl
@[simp] theorem State.setReg8_answers (s : State) (r : Reg8) (v : Byte) : (s.setReg8 r v).answers = s.answers := by cases r <;> rfl
@[simp] theorem State.setReg8_draws (s : State) (r : Reg8) (v : Byte) : (s.setReg8 r v).draws = s.draws := by cases r <;> rfl
@[simp] theorem State.setReg8_params (s : State) (r : Reg8) (v : Byte) : (s.setReg8 r v).params = s.params := by cases r <;> rfl

@[simp] theorem State.setPair_mem (s : State) (p : RegPair) (v : Word) : (s.setPair p v).mem = s.mem := by cases p <;> rfl
@[simp] theorem State.setPair_rom (s : State) (p : RegPair) (v : Word) : (s.setPair p v).rom = s.rom := by cases p <;> rfl
@[simp] theorem State.setPair_ram3 (s : State) (p : RegPair) (v : Word) : (s.setPair p v).ram3 = s.ram3 := by cases p <;> rfl
@[simp] theorem State.setPair_latch (s : State) (p : RegPair) (v : Word) : (s.setPair p v).latch = s.latch := by cases p <;> rfl
@[simp] theorem State.setPair_ula (s : State) (p : RegPair) (v : Word) : (s.setPair p v).ula = s.ula := by cases p <;> rfl
@[simp] theorem State.setPair_ay (s : State) (p : RegPair) (v : Word) : (s.setPair p v).ay = s.ay := by cases p <;> rfl
@[simp] theorem State.setPair_fdc (s : State) (p : RegPair) (v : Word) : (s.setPair p v).fdc = s.fdc := by cases p <;> rfl
@[simp] theorem State.setPair_tape (s : State) (p : RegPair) (v : Word) : (s.setPair p v).tape = s.tape := by cases p <;> rfl
@[simp] theorem State.setPair_pending (s : State) (p : RegPair) (v : Word) : (s.setPair p v).pending = s.pending := by cases p <;> rfl
@[simp] theorem State.setPair_answers (s : State) (p : RegPair) (v : Word) : (s.setPair p v).answers = s.answers := by cases p <;> rfl
@[simp] theorem State.setPair_draws (s : State) (p : RegPair) (v : Word) : (s.setPair p v).draws = s.draws := by cases p <;> rfl
@[simp] theorem State.setPair_params (s : State) (p : RegPair) (v : Word) : (s.setPair p v).params = s.params := by cases p <;> rfl

@[simp] theorem State.setStackPair_mem (s : State) (q : StackPair) (v : Word) : (s.setStackPair q v).mem = s.mem := by cases q <;> rfl
@[simp] theorem State.setStackPair_rom (s : State) (q : StackPair) (v : Word) : (s.setStackPair q v).rom = s.rom := by cases q <;> rfl
@[simp] theorem State.setStackPair_ram3 (s : State) (q : StackPair) (v : Word) : (s.setStackPair q v).ram3 = s.ram3 := by cases q <;> rfl
@[simp] theorem State.setStackPair_latch (s : State) (q : StackPair) (v : Word) : (s.setStackPair q v).latch = s.latch := by cases q <;> rfl
@[simp] theorem State.setStackPair_ula (s : State) (q : StackPair) (v : Word) : (s.setStackPair q v).ula = s.ula := by cases q <;> rfl
@[simp] theorem State.setStackPair_ay (s : State) (q : StackPair) (v : Word) : (s.setStackPair q v).ay = s.ay := by cases q <;> rfl
@[simp] theorem State.setStackPair_fdc (s : State) (q : StackPair) (v : Word) : (s.setStackPair q v).fdc = s.fdc := by cases q <;> rfl
@[simp] theorem State.setStackPair_tape (s : State) (q : StackPair) (v : Word) : (s.setStackPair q v).tape = s.tape := by cases q <;> rfl
@[simp] theorem State.setStackPair_pending (s : State) (q : StackPair) (v : Word) : (s.setStackPair q v).pending = s.pending := by cases q <;> rfl
@[simp] theorem State.setStackPair_answers (s : State) (q : StackPair) (v : Word) : (s.setStackPair q v).answers = s.answers := by cases q <;> rfl
@[simp] theorem State.setStackPair_draws (s : State) (q : StackPair) (v : Word) : (s.setStackPair q v).draws = s.draws := by cases q <;> rfl
@[simp] theorem State.setStackPair_params (s : State) (q : StackPair) (v : Word) : (s.setStackPair q v).params = s.params := by cases q <;> rfl

@[simp] theorem State.setXy_mem (s : State) (x : IdxReg) (v : Word) : (s.setXy x v).mem = s.mem := by cases x <;> rfl
@[simp] theorem State.setXy_rom (s : State) (x : IdxReg) (v : Word) : (s.setXy x v).rom = s.rom := by cases x <;> rfl
@[simp] theorem State.setXy_ram3 (s : State) (x : IdxReg) (v : Word) : (s.setXy x v).ram3 = s.ram3 := by cases x <;> rfl
@[simp] theorem State.setXy_latch (s : State) (x : IdxReg) (v : Word) : (s.setXy x v).latch = s.latch := by cases x <;> rfl
@[simp] theorem State.setXy_ula (s : State) (x : IdxReg) (v : Word) : (s.setXy x v).ula = s.ula := by cases x <;> rfl
@[simp] theorem State.setXy_ay (s : State) (x : IdxReg) (v : Word) : (s.setXy x v).ay = s.ay := by cases x <;> rfl
@[simp] theorem State.setXy_fdc (s : State) (x : IdxReg) (v : Word) : (s.setXy x v).fdc = s.fdc := by cases x <;> rfl
@[simp] theorem State.setXy_tape (s : State) (x : IdxReg) (v : Word) : (s.setXy x v).tape = s.tape := by cases x <;> rfl
@[simp] theorem State.setXy_pending (s : State) (x : IdxReg) (v : Word) : (s.setXy x v).pending = s.pending := by cases x <;> rfl
@[simp] theorem State.setXy_answers (s : State) (x : IdxReg) (v : Word) : (s.setXy x v).answers = s.answers := by cases x <;> rfl
@[simp] theorem State.setXy_draws (s : State) (x : IdxReg) (v : Word) : (s.setXy x v).draws = s.draws := by cases x <;> rfl
@[simp] theorem State.setXy_params (s : State) (x : IdxReg) (v : Word) : (s.setXy x v).params = s.params := by cases x <;> rfl

@[simp] theorem State.setHalf_mem (s : State) (x : IdxReg) (h : Half) (v : Byte) : (s.setHalf x h v).mem = s.mem := by cases h <;> simp [State.setHalf]
@[simp] theorem State.setHalf_rom (s : State) (x : IdxReg) (h : Half) (v : Byte) : (s.setHalf x h v).rom = s.rom := by cases h <;> simp [State.setHalf]
@[simp] theorem State.setHalf_ram3 (s : State) (x : IdxReg) (h : Half) (v : Byte) : (s.setHalf x h v).ram3 = s.ram3 := by cases h <;> simp [State.setHalf]
@[simp] theorem State.setHalf_latch (s : State) (x : IdxReg) (h : Half) (v : Byte) : (s.setHalf x h v).latch = s.latch := by cases h <;> simp [State.setHalf]
@[simp] theorem State.setHalf_ula (s : State) (x : IdxReg) (h : Half) (v : Byte) : (s.setHalf x h v).ula = s.ula := by cases h <;> simp [State.setHalf]
@[simp] theorem State.setHalf_ay (s : State) (x : IdxReg) (h : Half) (v : Byte) : (s.setHalf x h v).ay = s.ay := by cases h <;> simp [State.setHalf]
@[simp] theorem State.setHalf_fdc (s : State) (x : IdxReg) (h : Half) (v : Byte) : (s.setHalf x h v).fdc = s.fdc := by cases h <;> simp [State.setHalf]
@[simp] theorem State.setHalf_tape (s : State) (x : IdxReg) (h : Half) (v : Byte) : (s.setHalf x h v).tape = s.tape := by cases h <;> simp [State.setHalf]
@[simp] theorem State.setHalf_pending (s : State) (x : IdxReg) (h : Half) (v : Byte) : (s.setHalf x h v).pending = s.pending := by cases h <;> simp [State.setHalf]
@[simp] theorem State.setHalf_answers (s : State) (x : IdxReg) (h : Half) (v : Byte) : (s.setHalf x h v).answers = s.answers := by cases h <;> simp [State.setHalf]
@[simp] theorem State.setHalf_draws (s : State) (x : IdxReg) (h : Half) (v : Byte) : (s.setHalf x h v).draws = s.draws := by cases h <;> simp [State.setHalf]
@[simp] theorem State.setHalf_params (s : State) (x : IdxReg) (h : Half) (v : Byte) : (s.setHalf x h v).params = s.params := by cases h <;> simp [State.setHalf]

@[simp] theorem State.setHreg_mem (s : State) (x : IdxReg) (r : HReg) (v : Byte) : (s.setHreg x r v).mem = s.mem := by cases r <;> simp [State.setHreg]
@[simp] theorem State.setHreg_rom (s : State) (x : IdxReg) (r : HReg) (v : Byte) : (s.setHreg x r v).rom = s.rom := by cases r <;> simp [State.setHreg]
@[simp] theorem State.setHreg_ram3 (s : State) (x : IdxReg) (r : HReg) (v : Byte) : (s.setHreg x r v).ram3 = s.ram3 := by cases r <;> simp [State.setHreg]
@[simp] theorem State.setHreg_latch (s : State) (x : IdxReg) (r : HReg) (v : Byte) : (s.setHreg x r v).latch = s.latch := by cases r <;> simp [State.setHreg]
@[simp] theorem State.setHreg_ula (s : State) (x : IdxReg) (r : HReg) (v : Byte) : (s.setHreg x r v).ula = s.ula := by cases r <;> simp [State.setHreg]
@[simp] theorem State.setHreg_ay (s : State) (x : IdxReg) (r : HReg) (v : Byte) : (s.setHreg x r v).ay = s.ay := by cases r <;> simp [State.setHreg]
@[simp] theorem State.setHreg_fdc (s : State) (x : IdxReg) (r : HReg) (v : Byte) : (s.setHreg x r v).fdc = s.fdc := by cases r <;> simp [State.setHreg]
@[simp] theorem State.setHreg_tape (s : State) (x : IdxReg) (r : HReg) (v : Byte) : (s.setHreg x r v).tape = s.tape := by cases r <;> simp [State.setHreg]
@[simp] theorem State.setHreg_pending (s : State) (x : IdxReg) (r : HReg) (v : Byte) : (s.setHreg x r v).pending = s.pending := by cases r <;> simp [State.setHreg]
@[simp] theorem State.setHreg_answers (s : State) (x : IdxReg) (r : HReg) (v : Byte) : (s.setHreg x r v).answers = s.answers := by cases r <;> simp [State.setHreg]
@[simp] theorem State.setHreg_draws (s : State) (x : IdxReg) (r : HReg) (v : Byte) : (s.setHreg x r v).draws = s.draws := by cases r <;> simp [State.setHreg]
@[simp] theorem State.setHreg_params (s : State) (x : IdxReg) (r : HReg) (v : Byte) : (s.setHreg x r v).params = s.params := by cases r <;> simp [State.setHreg]

@[simp] theorem State.charge_cpu (s : State) (i : Instr) :
    (s.charge i).cpu = { s.cpu with clk := s.cpu.clk + (s.params.cost i : Int) } := rfl
@[simp] theorem State.charge_mem (s : State) (i : Instr) : (s.charge i).mem = s.mem := rfl
@[simp] theorem State.charge_rom (s : State) (i : Instr) : (s.charge i).rom = s.rom := rfl
@[simp] theorem State.charge_ram3 (s : State) (i : Instr) : (s.charge i).ram3 = s.ram3 := rfl
@[simp] theorem State.charge_latch (s : State) (i : Instr) : (s.charge i).latch = s.latch := rfl
@[simp] theorem State.charge_ula (s : State) (i : Instr) : (s.charge i).ula = s.ula := rfl
@[simp] theorem State.charge_ay (s : State) (i : Instr) : (s.charge i).ay = s.ay := rfl
@[simp] theorem State.charge_fdc (s : State) (i : Instr) : (s.charge i).fdc = s.fdc := rfl
@[simp] theorem State.charge_tape (s : State) (i : Instr) : (s.charge i).tape = s.tape := rfl
@[simp] theorem State.charge_pending (s : State) (i : Instr) : (s.charge i).pending = s.pending := rfl
@[simp] theorem State.charge_answers (s : State) (i : Instr) : (s.charge i).answers = s.answers := rfl
@[simp] theorem State.charge_draws (s : State) (i : Instr) : (s.charge i).draws = s.draws := rfl
@[simp] theorem State.charge_params (s : State) (i : Instr) : (s.charge i).params = s.params := rfl

@[simp] theorem State.chargeTaken_cpu (s : State) (i : Instr) :
    (s.chargeTaken i).cpu = { s.cpu with clk := s.cpu.clk + (s.params.costTaken i : Int) } := rfl
@[simp] theorem State.chargeTaken_mem (s : State) (i : Instr) : (s.chargeTaken i).mem = s.mem := rfl
@[simp] theorem State.chargeTaken_rom (s : State) (i : Instr) : (s.chargeTaken i).rom = s.rom := rfl
@[simp] theorem State.chargeTaken_ram3 (s : State) (i : Instr) : (s.chargeTaken i).ram3 = s.ram3 := rfl
@[simp] theorem State.chargeTaken_latch (s : State) (i : Instr) : (s.chargeTaken i).latch = s.latch := rfl
@[simp] theorem State.chargeTaken_ula (s : State) (i : Instr) : (s.chargeTaken i).ula = s.ula := rfl
@[simp] theorem State.chargeTaken_ay (s : State) (i : Instr) : (s.chargeTaken i).ay = s.ay := rfl
@[simp] theorem State.chargeTaken_fdc (s : State) (i : Instr) : (s.chargeTaken i).fdc = s.fdc := rfl
@[simp] theorem State.chargeTaken_tape (s : State) (i : Instr) : (s.chargeTaken i).tape = s.tape := rfl
@[simp] theorem State.chargeTaken_pending (s : State) (i : Instr) : (s.chargeTaken i).pending = s.pending := rfl
@[simp] theorem State.chargeTaken_answers (s : State) (i : Instr) : (s.chargeTaken i).answers = s.answers := rfl
@[simp] theorem State.chargeTaken_draws (s : State) (i : Instr) : (s.chargeTaken i).draws = s.draws := rfl
@[simp] theorem State.chargeTaken_params (s : State) (i : Instr) : (s.chargeTaken i).params = s.params := rfl

@[simp] theorem State.setRomBank_cpu (s : State) (k : RomKind) : (s.setRomBank k).cpu = s.cpu := rfl
@[simp] theorem State.setRomBank_mem (s : State) (k : RomKind) : (s.setRomBank k).mem = s.mem := rfl
@[simp] theorem State.setRomBank_rom (s : State) (k : RomKind) : (s.setRomBank k).rom = k := rfl
@[simp] theorem State.setRomBank_ram3 (s : State) (k : RomKind) : (s.setRomBank k).ram3 = s.ram3 := rfl
@[simp] theorem State.setRomBank_latch (s : State) (k : RomKind) : (s.setRomBank k).latch = s.latch := rfl
@[simp] theorem State.setRomBank_ula (s : State) (k : RomKind) : (s.setRomBank k).ula = s.ula := rfl
@[simp] theorem State.setRomBank_ay (s : State) (k : RomKind) : (s.setRomBank k).ay = s.ay := rfl
@[simp] theorem State.setRomBank_fdc (s : State) (k : RomKind) : (s.setRomBank k).fdc = s.fdc := rfl
@[simp] theorem State.setRomBank_tape (s : State) (k : RomKind) : (s.setRomBank k).tape = s.tape := rfl
@[simp] theorem State.setRomBank_pending (s : State) (k : RomKind) : (s.setRomBank k).pending = s.pending := rfl
@[simp] theorem State.setRomBank_answers (s : State) (k : RomKind) : (s.setRomBank k).answers = s.answers := rfl
@[simp] theorem State.setRomBank_draws (s : State) (k : RomKind) : (s.setRomBank k).draws = s.draws := rfl
@[simp] theorem State.setRomBank_params (s : State) (k : RomKind) : (s.setRomBank k).params = s.params := rfl

@[simp] theorem State.selectRamBank_cpu (s : State) (n : BitVec 3) : (s.selectRamBank n).cpu = s.cpu := rfl
@[simp] theorem State.selectRamBank_mem (s : State) (n : BitVec 3) : (s.selectRamBank n).mem = s.mem := rfl
@[simp] theorem State.selectRamBank_rom (s : State) (n : BitVec 3) : (s.selectRamBank n).rom = s.rom := rfl
@[simp] theorem State.selectRamBank_ram3 (s : State) (n : BitVec 3) : (s.selectRamBank n).ram3 = if n.toNat < s.params.ramBanks then n else s.ram3 := rfl
@[simp] theorem State.selectRamBank_latch (s : State) (n : BitVec 3) : (s.selectRamBank n).latch = s.latch := rfl
@[simp] theorem State.selectRamBank_ula (s : State) (n : BitVec 3) : (s.selectRamBank n).ula = s.ula := rfl
@[simp] theorem State.selectRamBank_ay (s : State) (n : BitVec 3) : (s.selectRamBank n).ay = s.ay := rfl
@[simp] theorem State.selectRamBank_fdc (s : State) (n : BitVec 3) : (s.selectRamBank n).fdc = s.fdc := rfl
@[simp] theorem State.selectRamBank_tape (s : State) (n : BitVec 3) : (s.selectRamBank n).tape = s.tape := rfl
@[simp] theorem State.selectRamBank_pending (s : State) (n : BitVec 3) : (s.selectRamBank n).pending = s.pending := rfl
@[simp] theorem State.selectRamBank_answers (s : State) (n : BitVec 3) : (s.selectRamBank n).answers = s.answers := rfl
@[simp] theorem State.selectRamBank_draws (s : State) (n : BitVec 3) : (s.selectRamBank n).draws = s.draws := rfl
@[simp] theorem State.selectRamBank_params (s : State) (n : BitVec 3) : (s.selectRamBank n).params = s.params := rfl

end Sys2Proof.Machine
end

