-- ==== Sys2Proof/Laws/Ops.lean ====
section
/-! SUPPORT. What the shared operations over memory, the stack, interrupts and ports can do: one lemma per field, and the
lemmas a proof cites instead of unfolding the operation. -/

namespace Sys2Proof.Machine

/-! ## Synchronising -/

@[simp] theorem State.syncVideo_cpu (s : State) (clk : Int) : (s.syncVideo clk).cpu = s.cpu := rfl
@[simp] theorem State.syncVideo_mem (s : State) (clk : Int) : (s.syncVideo clk).mem = s.mem := rfl
@[simp] theorem State.syncVideo_rom (s : State) (clk : Int) : (s.syncVideo clk).rom = s.rom := rfl
@[simp] theorem State.syncVideo_ram3 (s : State) (clk : Int) : (s.syncVideo clk).ram3 = s.ram3 := rfl
@[simp] theorem State.syncVideo_latch (s : State) (clk : Int) : (s.syncVideo clk).latch = s.latch := rfl
@[simp] theorem State.syncVideo_ay (s : State) (clk : Int) : (s.syncVideo clk).ay = s.ay := rfl
@[simp] theorem State.syncVideo_fdc (s : State) (clk : Int) : (s.syncVideo clk).fdc = s.fdc := rfl
@[simp] theorem State.syncVideo_tape (s : State) (clk : Int) : (s.syncVideo clk).tape = s.tape := rfl
@[simp] theorem State.syncVideo_pending (s : State) (clk : Int) : (s.syncVideo clk).pending = s.pending := rfl
@[simp] theorem State.syncVideo_answers (s : State) (clk : Int) : (s.syncVideo clk).answers = s.answers := rfl
@[simp] theorem State.syncVideo_draws (s : State) (clk : Int) : (s.syncVideo clk).draws = s.draws := rfl
@[simp] theorem State.syncVideo_params (s : State) (clk : Int) : (s.syncVideo clk).params = s.params := rfl

@[simp] theorem State.syncFdc_cpu (s : State) (clk : Int) : (s.syncFdc clk).cpu = s.cpu := rfl
@[simp] theorem State.syncFdc_mem (s : State) (clk : Int) : (s.syncFdc clk).mem = s.mem := rfl
@[simp] theorem State.syncFdc_rom (s : State) (clk : Int) : (s.syncFdc clk).rom = s.rom := rfl
@[simp] theorem State.syncFdc_ram3 (s : State) (clk : Int) : (s.syncFdc clk).ram3 = s.ram3 := rfl
@[simp] theorem State.syncFdc_latch (s : State) (clk : Int) : (s.syncFdc clk).latch = s.latch := rfl
@[simp] theorem State.syncFdc_ula (s : State) (clk : Int) : (s.syncFdc clk).ula = s.ula := rfl
@[simp] theorem State.syncFdc_ay (s : State) (clk : Int) : (s.syncFdc clk).ay = s.ay := rfl
@[simp] theorem State.syncFdc_tape (s : State) (clk : Int) : (s.syncFdc clk).tape = s.tape := rfl
@[simp] theorem State.syncFdc_pending (s : State) (clk : Int) : (s.syncFdc clk).pending = s.pending := rfl
@[simp] theorem State.syncFdc_answers (s : State) (clk : Int) : (s.syncFdc clk).answers = s.answers := rfl
@[simp] theorem State.syncFdc_draws (s : State) (clk : Int) : (s.syncFdc clk).draws = s.draws := rfl
@[simp] theorem State.syncFdc_params (s : State) (clk : Int) : (s.syncFdc clk).params = s.params := rfl

@[simp] theorem State.syncAy_cpu (s : State) (clk : Int) : (s.syncAy clk).cpu = s.cpu := rfl
@[simp] theorem State.syncAy_mem (s : State) (clk : Int) : (s.syncAy clk).mem = s.mem := rfl
@[simp] theorem State.syncAy_rom (s : State) (clk : Int) : (s.syncAy clk).rom = s.rom := rfl
@[simp] theorem State.syncAy_ram3 (s : State) (clk : Int) : (s.syncAy clk).ram3 = s.ram3 := rfl
@[simp] theorem State.syncAy_latch (s : State) (clk : Int) : (s.syncAy clk).latch = s.latch := rfl
@[simp] theorem State.syncAy_ula (s : State) (clk : Int) : (s.syncAy clk).ula = s.ula := rfl
@[simp] theorem State.syncAy_fdc (s : State) (clk : Int) : (s.syncAy clk).fdc = s.fdc := rfl
@[simp] theorem State.syncAy_tape (s : State) (clk : Int) : (s.syncAy clk).tape = s.tape := rfl
@[simp] theorem State.syncAy_pending (s : State) (clk : Int) : (s.syncAy clk).pending = s.pending := rfl
@[simp] theorem State.syncAy_answers (s : State) (clk : Int) : (s.syncAy clk).answers = s.answers := rfl
@[simp] theorem State.syncAy_draws (s : State) (clk : Int) : (s.syncAy clk).draws = s.draws := rfl
@[simp] theorem State.syncAy_params (s : State) (clk : Int) : (s.syncAy clk).params = s.params := rfl

@[simp] theorem State.syncTape_cpu (s : State) (clk : Int) : (s.syncTape clk).cpu = s.cpu := rfl
@[simp] theorem State.syncTape_mem (s : State) (clk : Int) : (s.syncTape clk).mem = s.mem := rfl
@[simp] theorem State.syncTape_rom (s : State) (clk : Int) : (s.syncTape clk).rom = s.rom := rfl
@[simp] theorem State.syncTape_ram3 (s : State) (clk : Int) : (s.syncTape clk).ram3 = s.ram3 := rfl
@[simp] theorem State.syncTape_latch (s : State) (clk : Int) : (s.syncTape clk).latch = s.latch := rfl
@[simp] theorem State.syncTape_ula (s : State) (clk : Int) : (s.syncTape clk).ula = s.ula := rfl
@[simp] theorem State.syncTape_ay (s : State) (clk : Int) : (s.syncTape clk).ay = s.ay := rfl
@[simp] theorem State.syncTape_fdc (s : State) (clk : Int) : (s.syncTape clk).fdc = s.fdc := rfl
@[simp] theorem State.syncTape_pending (s : State) (clk : Int) : (s.syncTape clk).pending = s.pending := rfl
@[simp] theorem State.syncTape_answers (s : State) (clk : Int) : (s.syncTape clk).answers = s.answers := rfl
@[simp] theorem State.syncTape_draws (s : State) (clk : Int) : (s.syncTape clk).draws = s.draws := rfl
@[simp] theorem State.syncTape_params (s : State) (clk : Int) : (s.syncTape clk).params = s.params := rfl

/-! ## A store of a byte -/

/-- A store changes memory at one location and, for display memory, brings the raster up to the clock (R87). -/
theorem State.writeByte_eq (s : State) (a : Word) (v : Byte) :
    s.writeByte a v =
      { s with
        mem := Memory.write s.mem (s.writeLoc a) v
        ula := if s.isDisplayPage (s.writePage (slotOf a)) then s.ula.syncTo s.params.video s.accessClk else s.ula } := by
  unfold State.writeByte
  split <;> simp_all [State.syncVideo]

@[simp] theorem State.writeByte_cpu (s : State) (a : Word) (v : Byte) : (s.writeByte a v).cpu = s.cpu := by
  rw [State.writeByte_eq]
@[simp] theorem State.writeByte_rom (s : State) (a : Word) (v : Byte) : (s.writeByte a v).rom = s.rom := by
  rw [State.writeByte_eq]
@[simp] theorem State.writeByte_ram3 (s : State) (a : Word) (v : Byte) : (s.writeByte a v).ram3 = s.ram3 := by
  rw [State.writeByte_eq]
@[simp] theorem State.writeByte_latch (s : State) (a : Word) (v : Byte) : (s.writeByte a v).latch = s.latch := by
  rw [State.writeByte_eq]
@[simp] theorem State.writeByte_ay (s : State) (a : Word) (v : Byte) : (s.writeByte a v).ay = s.ay := by
  rw [State.writeByte_eq]
@[simp] theorem State.writeByte_fdc (s : State) (a : Word) (v : Byte) : (s.writeByte a v).fdc = s.fdc := by
  rw [State.writeByte_eq]
@[simp] theorem State.writeByte_tape (s : State) (a : Word) (v : Byte) : (s.writeByte a v).tape = s.tape := by
  rw [State.writeByte_eq]
@[simp] theorem State.writeByte_pending (s : State) (a : Word) (v : Byte) : (s.writeByte a v).pending = s.pending := by
  rw [State.writeByte_eq]
@[simp] theorem State.writeByte_answers (s : State) (a : Word) (v : Byte) : (s.writeByte a v).answers = s.answers := by
  rw [State.writeByte_eq]
@[simp] theorem State.writeByte_draws (s : State) (a : Word) (v : Byte) : (s.writeByte a v).draws = s.draws := by
  rw [State.writeByte_eq]
@[simp] theorem State.writeByte_params (s : State) (a : Word) (v : Byte) : (s.writeByte a v).params = s.params := by
  rw [State.writeByte_eq]
@[simp] theorem State.writeByte_mem (s : State) (a : Word) (v : Byte) :
    (s.writeByte a v).mem = Memory.write s.mem (s.writeLoc a) v := by
  rw [State.writeByte_eq]
theorem State.writeByte_ula (s : State) (a : Word) (v : Byte) :
    (s.writeByte a v).ula =
      if s.isDisplayPage (s.writePage (slotOf a)) then s.ula.syncTo s.params.video s.accessClk else s.ula := by
  rw [State.writeByte_eq]

/-! ## The access clock depends on the clock and the parameters only -/

theorem State.accessClk_congr {s t : State} (h : t.cpu.clk = s.cpu.clk) (hp : t.params = s.params) :
    t.accessClk = s.accessClk := by
  unfold State.accessClk
  rw [h, hp]
@[simp] theorem State.writeByte_accessClk (s : State) (a : Word) (v : Byte) : (s.writeByte a v).accessClk = s.accessClk :=
  State.accessClk_congr (by simp) (by simp)
@[simp] theorem State.setSp_accessClk (s : State) (v : Word) : (s.setSp v).accessClk = s.accessClk := rfl
@[simp] theorem State.setPc_accessClk (s : State) (v : Word) : (s.setPc v).accessClk = s.accessClk := rfl
@[simp] theorem State.setMemptr_accessClk (s : State) (v : Word) : (s.setMemptr v).accessClk = s.accessClk := rfl

/-! ## Mapping depends on the ROM and the bank only -/

theorem State.readPage_congr {s t : State} (h : t.rom = s.rom) (h3 : t.ram3 = s.ram3) (n : Nat) :
    t.readPage n = s.readPage n := by
  unfold State.readPage
  rw [h, h3]

theorem State.writePage_congr {s t : State} (h3 : t.ram3 = s.ram3) (n : Nat) : t.writePage n = s.writePage n := by
  unfold State.writePage
  rw [h3]

theorem State.readLoc_congr {s t : State} (h : t.rom = s.rom) (h3 : t.ram3 = s.ram3) (a : Word) :
    t.readLoc a = s.readLoc a := by
  unfold State.readLoc
  rw [State.readPage_congr h h3]

theorem State.writeLoc_congr {s t : State} (h3 : t.ram3 = s.ram3) (a : Word) : t.writeLoc a = s.writeLoc a := by
  unfold State.writeLoc
  rw [State.writePage_congr h3]

theorem State.readByte_congr {s t : State} (hm : t.mem = s.mem) (h : t.rom = s.rom) (h3 : t.ram3 = s.ram3) (a : Word) :
    t.readByte a = s.readByte a := by
  unfold State.readByte
  rw [hm, State.readLoc_congr h h3]

theorem State.readWord_congr {s t : State} (hm : t.mem = s.mem) (h : t.rom = s.rom) (h3 : t.ram3 = s.ram3) (a : Word) :
    t.readWord a = s.readWord a := by
  unfold State.readWord
  rw [State.readByte_congr hm h h3, State.readByte_congr hm h h3]

/-- What an address reads after a store: the byte, where the address reads from the location stored to. -/
theorem State.readByte_writeByte (s : State) (a p : Word) (v : Byte) :
    (s.writeByte a v).readByte p = if s.readLoc p = s.writeLoc a then v else s.readByte p := by
  have h : (s.writeByte a v).readLoc p = s.readLoc p := State.readLoc_congr (by simp) (by simp) p
  unfold State.readByte
  rw [h, State.writeByte_mem, Memory.read_write]

/-- The two bytes of a word never share a location. -/
theorem State.writeLoc_succ_ne (s : State) (a : Word) : s.writeLoc (a + 1) ≠ s.writeLoc a := by
  have h : offOf (a + 1) ≠ offOf a := by
    simp only [offOf, BitVec.toNat_add]
    have := a.isLt
    have h1 : (1 : Word).toNat = 1 := rfl
    omega
  have h0 := offOf_lt a
  have h1 := offOf_lt (a + 1)
  unfold State.writeLoc physical
  simp only [pageSize] at *
  omega

/-! ## A store of a word, and the stack -/

@[simp] theorem State.writeWord_cpu (s : State) (a v : Word) : (s.writeWord a v).cpu = s.cpu := by
  simp [State.writeWord]
@[simp] theorem State.writeWord_rom (s : State) (a v : Word) : (s.writeWord a v).rom = s.rom := by
  simp [State.writeWord]
@[simp] theorem State.writeWord_ram3 (s : State) (a v : Word) : (s.writeWord a v).ram3 = s.ram3 := by
  simp [State.writeWord]
@[simp] theorem State.writeWord_latch (s : State) (a v : Word) : (s.writeWord a v).latch = s.latch := by
  simp [State.writeWord]
@[simp] theorem State.writeWord_ay (s : State) (a v : Word) : (s.writeWord a v).ay = s.ay := by
  simp [State.writeWord]
@[simp] theorem State.writeWord_fdc (s : State) (a v : Word) : (s.writeWord a v).fdc = s.fdc := by
  simp [State.writeWord]
@[simp] theorem State.writeWord_tape (s : State) (a v : Word) : (s.writeWord a v).tape = s.tape := by
  simp [State.writeWord]
@[simp] theorem State.writeWord_pending (s : State) (a v : Word) : (s.writeWord a v).pending = s.pending := by
  simp [State.writeWord]
@[simp] theorem State.writeWord_answers (s : State) (a v : Word) : (s.writeWord a v).answers = s.answers := by
  simp [State.writeWord]
@[simp] theorem State.writeWord_draws (s : State) (a v : Word) : (s.writeWord a v).draws = s.draws := by
  simp [State.writeWord]
@[simp] theorem State.writeWord_params (s : State) (a v : Word) : (s.writeWord a v).params = s.params := by
  simp [State.writeWord]

@[simp] theorem State.push16_cpu (s : State) (v : Word) : (s.push16 v).cpu = { s.cpu with sp := s.cpu.sp - 2 } := by
  simp [State.push16]
@[simp] theorem State.push16_rom (s : State) (v : Word) : (s.push16 v).rom = s.rom := by
  simp [State.push16]
@[simp] theorem State.push16_ram3 (s : State) (v : Word) : (s.push16 v).ram3 = s.ram3 := by
  simp [State.push16]
@[simp] theorem State.push16_latch (s : State) (v : Word) : (s.push16 v).latch = s.latch := by
  simp [State.push16]
@[simp] theorem State.push16_ay (s : State) (v : Word) : (s.push16 v).ay = s.ay := by
  simp [State.push16]
@[simp] theorem State.push16_fdc (s : State) (v : Word) : (s.push16 v).fdc = s.fdc := by
  simp [State.push16]
@[simp] theorem State.push16_tape (s : State) (v : Word) : (s.push16 v).tape = s.tape := by
  simp [State.push16]
@[simp] theorem State.push16_pending (s : State) (v : Word) : (s.push16 v).pending = s.pending := by
  simp [State.push16]
@[simp] theorem State.push16_answers (s : State) (v : Word) : (s.push16 v).answers = s.answers := by
  simp [State.push16]
@[simp] theorem State.push16_draws (s : State) (v : Word) : (s.push16 v).draws = s.draws := by
  simp [State.push16]
@[simp] theorem State.push16_params (s : State) (v : Word) : (s.push16 v).params = s.params := by
  simp [State.push16]
@[simp] theorem State.push16_mem (s : State) (v : Word) :
    (s.push16 v).mem =
      Memory.write (Memory.write s.mem (s.writeLoc (s.cpu.sp - 1)) v.hi) (s.writeLoc (s.cpu.sp - 2)) v.lo := by
  have h (t : State) (ht : t.ram3 = s.ram3) (a : Word) : t.writeLoc a = s.writeLoc a := State.writeLoc_congr ht a
  simp only [State.push16, State.writeByte_mem, State.setSp_mem]
  rw [h (s.setSp _) (by simp), h (State.setSp _ _) (by simp)]

/-! ## Interrupts -/

theorem State.exitHalt_eq (s : State) :
    s.exitHalt = { s with cpu := { s.cpu with halted := false, pc := if s.cpu.halted then s.cpu.pc + 1 else s.cpu.pc } } := by
  unfold State.exitHalt
  split
  · rename_i h
    simp [State.setHalted, State.setPc]
  · rename_i h
    obtain ⟨c⟩ := s
    obtain ⟨⟩ := c
    simp_all

@[simp] theorem State.exitHalt_mem (s : State) : s.exitHalt.mem = s.mem := by
  rw [State.exitHalt_eq]
@[simp] theorem State.exitHalt_ula (s : State) : s.exitHalt.ula = s.ula := by
  rw [State.exitHalt_eq]
@[simp] theorem State.exitHalt_rom (s : State) : s.exitHalt.rom = s.rom := by
  rw [State.exitHalt_eq]
@[simp] theorem State.exitHalt_ram3 (s : State) : s.exitHalt.ram3 = s.ram3 := by
  rw [State.exitHalt_eq]
@[simp] theorem State.exitHalt_latch (s : State) : s.exitHalt.latch = s.latch := by
  rw [State.exitHalt_eq]
@[simp] theorem State.exitHalt_ay (s : State) : s.exitHalt.ay = s.ay := by
  rw [State.exitHalt_eq]
@[simp] theorem State.exitHalt_fdc (s : State) : s.exitHalt.fdc = s.fdc := by
  rw [State.exitHalt_eq]
@[simp] theorem State.exitHalt_tape (s : State) : s.exitHalt.tape = s.tape := by
  rw [State.exitHalt_eq]
@[simp] theorem State.exitHalt_pending (s : State) : s.exitHalt.pending = s.pending := by
  rw [State.exitHalt_eq]
@[simp] theorem State.exitHalt_answers (s : State) : s.exitHalt.answers = s.answers := by
  rw [State.exitHalt_eq]
@[simp] theorem State.exitHalt_draws (s : State) : s.exitHalt.draws = s.draws := by
  rw [State.exitHalt_eq]
@[simp] theorem State.exitHalt_params (s : State) : s.exitHalt.params = s.params := by
  rw [State.exitHalt_eq]

@[simp] theorem State.takeInterrupt_rom (s : State) (n : Bool) (w : Option Word) (a : Word) (c : Nat) :
    (s.takeInterrupt n w a c).rom = s.rom := by
  simp [State.takeInterrupt]
@[simp] theorem State.takeInterrupt_ram3 (s : State) (n : Bool) (w : Option Word) (a : Word) (c : Nat) :
    (s.takeInterrupt n w a c).ram3 = s.ram3 := by
  simp [State.takeInterrupt]
@[simp] theorem State.takeInterrupt_latch (s : State) (n : Bool) (w : Option Word) (a : Word) (c : Nat) :
    (s.takeInterrupt n w a c).latch = s.latch := by
  simp [State.takeInterrupt]
@[simp] theorem State.takeInterrupt_ay (s : State) (n : Bool) (w : Option Word) (a : Word) (c : Nat) :
    (s.takeInterrupt n w a c).ay = s.ay := by
  simp [State.takeInterrupt]
@[simp] theorem State.takeInterrupt_fdc (s : State) (n : Bool) (w : Option Word) (a : Word) (c : Nat) :
    (s.takeInterrupt n w a c).fdc = s.fdc := by
  simp [State.takeInterrupt]
@[simp] theorem State.takeInterrupt_tape (s : State) (n : Bool) (w : Option Word) (a : Word) (c : Nat) :
    (s.takeInterrupt n w a c).tape = s.tape := by
  simp [State.takeInterrupt]
@[simp] theorem State.takeInterrupt_pending (s : State) (n : Bool) (w : Option Word) (a : Word) (c : Nat) :
    (s.takeInterrupt n w a c).pending = s.pending := by
  simp [State.takeInterrupt]
@[simp] theorem State.takeInterrupt_answers (s : State) (n : Bool) (w : Option Word) (a : Word) (c : Nat) :
    (s.takeInterrupt n w a c).answers = s.answers := by
  simp [State.takeInterrupt]
@[simp] theorem State.takeInterrupt_draws (s : State) (n : Bool) (w : Option Word) (a : Word) (c : Nat) :
    (s.takeInterrupt n w a c).draws = s.draws := by
  simp [State.takeInterrupt]
@[simp] theorem State.takeInterrupt_params (s : State) (n : Bool) (w : Option Word) (a : Word) (c : Nat) :
    (s.takeInterrupt n w a c).params = s.params := by
  simp [State.takeInterrupt]

/-- The core after taking an interrupt: the flip-flops, the counter, the stack pointer, the target and the cost. -/
theorem State.takeInterrupt_cpu (s : State) (n : Bool) (w : Option Word) (a : Word) (c : Nat) :
    ∃ target : Word, (s.takeInterrupt n w a c).cpu =
      { s.cpu with
        halted := false, iff1 := false, iff2 := n && s.cpu.iff2, rlo := s.cpu.rlo + 1, sp := s.cpu.sp - 2
        pc := target, memptr := target, clk := s.cpu.clk + c, intBlock := false } ∧
      (∀ x, w = some x → target = x) ∧
      (w = none → target = (s.takeInterrupt n w a c).readWord a) := by
  let s1 := ((s.exitHalt.setIff1 false).setIff2 (n && s.cpu.iff2)).refresh 1
  refine ⟨(s1.push16 s1.cpu.pc).vectorTarget w a, ?_, ?_, ?_⟩
  · simp [State.takeInterrupt, State.exitHalt_eq, s1]
  · intro x hx
    subst hx
    rfl
  · intro hw
    subst hw
    simp only [State.takeInterrupt, State.vectorTarget]
    symm
    apply State.readWord_congr <;> simp [s1]

/-! ## Fetching -/

/-- An opcode fetch changes the ROM in slot 0 and nothing else. -/
theorem State.fetchMap_eq (s : State) (a : Word) : ∃ k, s.fetchMap a = { s with rom := k } := by
  unfold State.fetchMap State.setRomBank
  split
  · exact ⟨_, rfl⟩
  · split
    · exact ⟨_, rfl⟩
    · exact ⟨s.rom, rfl⟩

@[simp] theorem State.fetchMap_cpu (s : State) (a : Word) : (s.fetchMap a).cpu = s.cpu := by
  obtain ⟨k, h⟩ := s.fetchMap_eq a
  rw [h]
@[simp] theorem State.fetchMap_mem (s : State) (a : Word) : (s.fetchMap a).mem = s.mem := by
  obtain ⟨k, h⟩ := s.fetchMap_eq a
  rw [h]
@[simp] theorem State.fetchMap_ram3 (s : State) (a : Word) : (s.fetchMap a).ram3 = s.ram3 := by
  obtain ⟨k, h⟩ := s.fetchMap_eq a
  rw [h]
@[simp] theorem State.fetchMap_latch (s : State) (a : Word) : (s.fetchMap a).latch = s.latch := by
  obtain ⟨k, h⟩ := s.fetchMap_eq a
  rw [h]
@[simp] theorem State.fetchMap_ula (s : State) (a : Word) : (s.fetchMap a).ula = s.ula := by
  obtain ⟨k, h⟩ := s.fetchMap_eq a
  rw [h]
@[simp] theorem State.fetchMap_ay (s : State) (a : Word) : (s.fetchMap a).ay = s.ay := by
  obtain ⟨k, h⟩ := s.fetchMap_eq a
  rw [h]
@[simp] theorem State.fetchMap_fdc (s : State) (a : Word) : (s.fetchMap a).fdc = s.fdc := by
  obtain ⟨k, h⟩ := s.fetchMap_eq a
  rw [h]
@[simp] theorem State.fetchMap_tape (s : State) (a : Word) : (s.fetchMap a).tape = s.tape := by
  obtain ⟨k, h⟩ := s.fetchMap_eq a
  rw [h]
@[simp] theorem State.fetchMap_pending (s : State) (a : Word) : (s.fetchMap a).pending = s.pending := by
  obtain ⟨k, h⟩ := s.fetchMap_eq a
  rw [h]
@[simp] theorem State.fetchMap_answers (s : State) (a : Word) : (s.fetchMap a).answers = s.answers := by
  obtain ⟨k, h⟩ := s.fetchMap_eq a
  rw [h]
@[simp] theorem State.fetchMap_draws (s : State) (a : Word) : (s.fetchMap a).draws = s.draws := by
  obtain ⟨k, h⟩ := s.fetchMap_eq a
  rw [h]
@[simp] theorem State.fetchMap_params (s : State) (a : Word) : (s.fetchMap a).params = s.params := by
  obtain ⟨k, h⟩ := s.fetchMap_eq a
  rw [h]

/-! ## Ports -/

@[simp] theorem State.portRead_cpu (s : State) (p : Word) : (s.portRead p).cpu = s.cpu := by
  unfold State.portRead State.ioRead
  split
  · simp [State.readFdcPort]
  · split
    · simp [State.readSystemPort]
    · split
      · simp [State.readAyPort]
      · split
        · simp [State.readUlaPort]
        · rfl
@[simp] theorem State.portRead_mem (s : State) (p : Word) : (s.portRead p).mem = s.mem := by
  unfold State.portRead State.ioRead
  split
  · simp [State.readFdcPort]
  · split
    · simp [State.readSystemPort]
    · split
      · simp [State.readAyPort]
      · split
        · simp [State.readUlaPort]
        · rfl
@[simp] theorem State.portRead_rom (s : State) (p : Word) : (s.portRead p).rom = s.rom := by
  unfold State.portRead State.ioRead
  split
  · simp [State.readFdcPort]
  · split
    · simp [State.readSystemPort]
    · split
      · simp [State.readAyPort]
      · split
        · simp [State.readUlaPort]
        · rfl
@[simp] theorem State.portRead_ram3 (s : State) (p : Word) : (s.portRead p).ram3 = s.ram3 := by
  unfold State.portRead State.ioRead
  split
  · simp [State.readFdcPort]
  · split
    · simp [State.readSystemPort]
    · split
      · simp [State.readAyPort]
      · split
        · simp [State.readUlaPort]
        · rfl
@[simp] theorem State.portRead_latch (s : State) (p : Word) : (s.portRead p).latch = s.latch := by
  unfold State.portRead State.ioRead
  split
  · simp [State.readFdcPort]
  · split
    · simp [State.readSystemPort]
    · split
      · simp [State.readAyPort]
      · split
        · simp [State.readUlaPort]
        · rfl
@[simp] theorem State.portRead_pending (s : State) (p : Word) : (s.portRead p).pending = s.pending := by
  unfold State.portRead State.ioRead
  split
  · simp [State.readFdcPort]
  · split
    · simp [State.readSystemPort]
    · split
      · simp [State.readAyPort]
      · split
        · simp [State.readUlaPort]
        · rfl
@[simp] theorem State.portRead_answers (s : State) (p : Word) : (s.portRead p).answers = s.answers := by
  unfold State.portRead State.ioRead
  split
  · simp [State.readFdcPort]
  · split
    · simp [State.readSystemPort]
    · split
      · simp [State.readAyPort]
      · split
        · simp [State.readUlaPort]
        · rfl
@[simp] theorem State.portRead_draws (s : State) (p : Word) : (s.portRead p).draws = s.draws := by
  unfold State.portRead State.ioRead
  split
  · simp [State.readFdcPort]
  · split
    · simp [State.readSystemPort]
    · split
      · simp [State.readAyPort]
      · split
        · simp [State.readUlaPort]
        · rfl
@[simp] theorem State.portRead_params (s : State) (p : Word) : (s.portRead p).params = s.params := by
  unfold State.portRead State.ioRead
  split
  · simp [State.readFdcPort]
  · split
    · simp [State.readSystemPort]
    · split
      · simp [State.readAyPort]
      · split
        · simp [State.readUlaPort]
        · rfl

@[simp] theorem State.writeFdcPort_cpu (s : State) (p : Word) (v : Byte) : (s.writeFdcPort p v).cpu = s.cpu := by
  unfold State.writeFdcPort
  split
  · rfl
  · split <;> rfl
@[simp] theorem State.writeFdcPort_mem (s : State) (p : Word) (v : Byte) : (s.writeFdcPort p v).mem = s.mem := by
  unfold State.writeFdcPort
  split
  · rfl
  · split <;> rfl
@[simp] theorem State.writeFdcPort_rom (s : State) (p : Word) (v : Byte) : (s.writeFdcPort p v).rom = s.rom := by
  unfold State.writeFdcPort
  split
  · rfl
  · split <;> rfl
@[simp] theorem State.writeFdcPort_ram3 (s : State) (p : Word) (v : Byte) : (s.writeFdcPort p v).ram3 = s.ram3 := by
  unfold State.writeFdcPort
  split
  · rfl
  · split <;> rfl
@[simp] theorem State.writeFdcPort_latch (s : State) (p : Word) (v : Byte) : (s.writeFdcPort p v).latch = s.latch := by
  unfold State.writeFdcPort
  split
  · rfl
  · split <;> rfl
@[simp] theorem State.writeFdcPort_ula (s : State) (p : Word) (v : Byte) : (s.writeFdcPort p v).ula = s.ula := by
  unfold State.writeFdcPort
  split
  · rfl
  · split <;> rfl
@[simp] theorem State.writeFdcPort_ay (s : State) (p : Word) (v : Byte) : (s.writeFdcPort p v).ay = s.ay := by
  unfold State.writeFdcPort
  split
  · rfl
  · split <;> rfl
@[simp] theorem State.writeFdcPort_tape (s : State) (p : Word) (v : Byte) : (s.writeFdcPort p v).tape = s.tape := by
  unfold State.writeFdcPort
  split
  · rfl
  · split <;> rfl
@[simp] theorem State.writeFdcPort_pending (s : State) (p : Word) (v : Byte) : (s.writeFdcPort p v).pending = s.pending := by
  unfold State.writeFdcPort
  split
  · rfl
  · split <;> rfl
@[simp] theorem State.writeFdcPort_answers (s : State) (p : Word) (v : Byte) : (s.writeFdcPort p v).answers = s.answers := by
  unfold State.writeFdcPort
  split
  · rfl
  · split <;> rfl
@[simp] theorem State.writeFdcPort_draws (s : State) (p : Word) (v : Byte) : (s.writeFdcPort p v).draws = s.draws := by
  unfold State.writeFdcPort
  split
  · rfl
  · split <;> rfl
@[simp] theorem State.writeFdcPort_params (s : State) (p : Word) (v : Byte) : (s.writeFdcPort p v).params = s.params := by
  unfold State.writeFdcPort
  split
  · rfl
  · split <;> rfl
@[simp] theorem State.writeAyPort_cpu (s : State) (p : Word) (v : Byte) : (s.writeAyPort p v).cpu = s.cpu := by
  unfold State.writeAyPort
  split
  · rfl
  · split <;> rfl
@[simp] theorem State.writeAyPort_mem (s : State) (p : Word) (v : Byte) : (s.writeAyPort p v).mem = s.mem := by
  unfold State.writeAyPort
  split
  · rfl
  · split <;> rfl
@[simp] theorem State.writeAyPort_rom (s : State) (p : Word) (v : Byte) : (s.writeAyPort p v).rom = s.rom := by
  unfold State.writeAyPort
  split
  · rfl
  · split <;> rfl
@[simp] theorem State.writeAyPort_ram3 (s : State) (p : Word) (v : Byte) : (s.writeAyPort p v).ram3 = s.ram3 := by
  unfold State.writeAyPort
  split
  · rfl
  · split <;> rfl
@[simp] theorem State.writeAyPort_latch (s : State) (p : Word) (v : Byte) : (s.writeAyPort p v).latch = s.latch := by
  unfold State.writeAyPort
  split
  · rfl
  · split <;> rfl
@[simp] theorem State.writeAyPort_ula (s : State) (p : Word) (v : Byte) : (s.writeAyPort p v).ula = s.ula := by
  unfold State.writeAyPort
  split
  · rfl
  · split <;> rfl
@[simp] theorem State.writeAyPort_fdc (s : State) (p : Word) (v : Byte) : (s.writeAyPort p v).fdc = s.fdc := by
  unfold State.writeAyPort
  split
  · rfl
  · split <;> rfl
@[simp] theorem State.writeAyPort_tape (s : State) (p : Word) (v : Byte) : (s.writeAyPort p v).tape = s.tape := by
  unfold State.writeAyPort
  split
  · rfl
  · split <;> rfl
@[simp] theorem State.writeAyPort_pending (s : State) (p : Word) (v : Byte) : (s.writeAyPort p v).pending = s.pending := by
  unfold State.writeAyPort
  split
  · rfl
  · split <;> rfl
@[simp] theorem State.writeAyPort_answers (s : State) (p : Word) (v : Byte) : (s.writeAyPort p v).answers = s.answers := by
  unfold State.writeAyPort
  split
  · rfl
  · split <;> rfl
@[simp] theorem State.writeAyPort_draws (s : State) (p : Word) (v : Byte) : (s.writeAyPort p v).draws = s.draws := by
  unfold State.writeAyPort
  split
  · rfl
  · split <;> rfl
@[simp] theorem State.writeAyPort_params (s : State) (p : Word) (v : Byte) : (s.writeAyPort p v).params = s.params := by
  unfold State.writeAyPort
  split
  · rfl
  · split <;> rfl
@[simp] theorem State.writeUlaPort_cpu (s : State) (p : Word) (v : Byte) : (s.writeUlaPort p v).cpu = s.cpu := by
  unfold State.writeUlaPort
  split <;> rfl
@[simp] theorem State.writeUlaPort_mem (s : State) (p : Word) (v : Byte) : (s.writeUlaPort p v).mem = s.mem := by
  unfold State.writeUlaPort
  split <;> rfl
@[simp] theorem State.writeUlaPort_rom (s : State) (p : Word) (v : Byte) : (s.writeUlaPort p v).rom = s.rom := by
  unfold State.writeUlaPort
  split <;> rfl
@[simp] theorem State.writeUlaPort_ram3 (s : State) (p : Word) (v : Byte) : (s.writeUlaPort p v).ram3 = s.ram3 := by
  unfold State.writeUlaPort
  split <;> rfl
@[simp] theorem State.writeUlaPort_latch (s : State) (p : Word) (v : Byte) : (s.writeUlaPort p v).latch = s.latch := by
  unfold State.writeUlaPort
  split <;> rfl
@[simp] theorem State.writeUlaPort_ay (s : State) (p : Word) (v : Byte) : (s.writeUlaPort p v).ay = s.ay := by
  unfold State.writeUlaPort
  split <;> rfl
@[simp] theorem State.writeUlaPort_fdc (s : State) (p : Word) (v : Byte) : (s.writeUlaPort p v).fdc = s.fdc := by
  unfold State.writeUlaPort
  split <;> rfl
@[simp] theorem State.writeUlaPort_tape (s : State) (p : Word) (v : Byte) : (s.writeUlaPort p v).tape = s.tape := by
  unfold State.writeUlaPort
  split <;> rfl
@[simp] theorem State.writeUlaPort_pending (s : State) (p : Word) (v : Byte) : (s.writeUlaPort p v).pending = s.pending := by
  unfold State.writeUlaPort
  split <;> rfl
@[simp] theorem State.writeUlaPort_answers (s : State) (p : Word) (v : Byte) : (s.writeUlaPort p v).answers = s.answers := by
  unfold State.writeUlaPort
  split <;> rfl
@[simp] theorem State.writeUlaPort_draws (s : State) (p : Word) (v : Byte) : (s.writeUlaPort p v).draws = s.draws := by
  unfold State.writeUlaPort
  split <;> rfl
@[simp] theorem State.writeUlaPort_params (s : State) (p : Word) (v : Byte) : (s.writeUlaPort p v).params = s.params := by
  unfold State.writeUlaPort
  split <;> rfl
@[simp] theorem State.writeLatchPort_cpu (s : State) (p : Word) (v : Byte) : (s.writeLatchPort p v).cpu = s.cpu := by
  unfold State.writeLatchPort
  split
  · dsimp only
    split <;> simp
  · rfl
@[simp] theorem State.writeLatchPort_mem (s : State) (p : Word) (v : Byte) : (s.writeLatchPort p v).mem = s.mem := by
  unfold State.writeLatchPort
  split
  · dsimp only
    split <;> simp
  · rfl
@[simp] theorem State.writeLatchPort_ay (s : State) (p : Word) (v : Byte) : (s.writeLatchPort p v).ay = s.ay := by
  unfold State.writeLatchPort
  split
  · dsimp only
    split <;> simp
  · rfl
@[simp] theorem State.writeLatchPort_fdc (s : State) (p : Word) (v : Byte) : (s.writeLatchPort p v).fdc = s.fdc := by
  unfold State.writeLatchPort
  split
  · dsimp only
    split <;> simp
  · rfl
@[simp] theorem State.writeLatchPort_tape (s : State) (p : Word) (v : Byte) : (s.writeLatchPort p v).tape = s.tape := by
  unfold State.writeLatchPort
  split
  · dsimp only
    split <;> simp
  · rfl
@[simp] theorem State.writeLatchPort_pending (s : State) (p : Word) (v : Byte) : (s.writeLatchPort p v).pending = s.pending := by
  unfold State.writeLatchPort
  split
  · dsimp only
    split <;> simp
  · rfl
@[simp] theorem State.writeLatchPort_answers (s : State) (p : Word) (v : Byte) : (s.writeLatchPort p v).answers = s.answers := by
  unfold State.writeLatchPort
  split
  · dsimp only
    split <;> simp
  · rfl
@[simp] theorem State.writeLatchPort_draws (s : State) (p : Word) (v : Byte) : (s.writeLatchPort p v).draws = s.draws := by
  unfold State.writeLatchPort
  split
  · dsimp only
    split <;> simp
  · rfl
@[simp] theorem State.writeLatchPort_params (s : State) (p : Word) (v : Byte) : (s.writeLatchPort p v).params = s.params := by
  unfold State.writeLatchPort
  split
  · dsimp only
    split <;> simp
  · rfl
@[simp] theorem State.ioWrite_cpu (s : State) (p : Word) (v : Byte) : (s.ioWrite p v).cpu = s.cpu := by
  simp [State.ioWrite]
@[simp] theorem State.ioWrite_mem (s : State) (p : Word) (v : Byte) : (s.ioWrite p v).mem = s.mem := by
  simp [State.ioWrite]
@[simp] theorem State.ioWrite_pending (s : State) (p : Word) (v : Byte) : (s.ioWrite p v).pending = s.pending := by
  simp [State.ioWrite]
@[simp] theorem State.ioWrite_answers (s : State) (p : Word) (v : Byte) : (s.ioWrite p v).answers = s.answers := by
  simp [State.ioWrite]
@[simp] theorem State.ioWrite_draws (s : State) (p : Word) (v : Byte) : (s.ioWrite p v).draws = s.draws := by
  simp [State.ioWrite]
@[simp] theorem State.ioWrite_params (s : State) (p : Word) (v : Byte) : (s.ioWrite p v).params = s.params := by
  simp [State.ioWrite]

end Sys2Proof.Machine
end

