-- ==== Sys2Proof/Laws/Host.lean ====
section
/-! SUPPORT. What the host's calls can do: a load that fails changes nothing, and loading a ROM image or a snapshot keeps the
memory canonical. -/

namespace Sys2Proof.Machine

/-- A load call either answers `loaded` and leaves what was loaded, or answers a failure and leaves the state as it was. -/
theorem State.afterLoad_cases (s : State) (r : Except HostError State) :
    (∃ t, r = .ok t ∧ s.afterLoad r = (.loaded, t)) ∨ (∃ e, r = .error e ∧ s.afterLoad r = (.failed e, s)) := by
  cases r with
  | ok t => exact .inl ⟨t, rfl, rfl⟩
  | error e => exact .inr ⟨e, rfl, rfl⟩

/-- A snapshot that loads is the machine's own: its variant, and each RAM page whole. -/
theorem State.snapshotFits_page {s : State} {snap : Snapshot} (h : s.snapshotFits snap = true) {n : Nat}
    (hn : n ∈ s.ramPages) : (snap.page n).length = pageSize := by
  simp only [State.snapshotFits, Bool.and_eq_true, List.all_eq_true, beq_iff_eq] at h
  exact h.2 n hn

/-- What a snapshot load does to the fields beside the mapping: it happens only for a snapshot that fits. -/
theorem State.loadSnapshot_ok {s t : State} {snap : Snapshot} (h : s.loadSnapshot snap = .ok t) :
    s.snapshotFits snap = true ∧
      t = { s.withSnapshot snap with rom := t.rom, ram3 := t.ram3, latch := t.latch } := by
  unfold State.loadSnapshot at h
  split at h
  · rename_i hf
    refine ⟨hf, ?_⟩
    split at h
    · cases h; rfl
    · cases h; rfl
  · cases h

/-- The RAM of a snapshot whose pages are whole is canonical, page after page. -/
theorem Snapshot.ram_canonical (snap : Snapshot) (pages : List Nat) (n : Nat) (hs : pages.Pairwise (· < ·))
    (hl : ∀ p ∈ pages, n ≤ p ∧ p < 8) (hp : ∀ p ∈ pages, (snap.page p).length = pageSize) :
    Memory.wfFrom (n * pageSize) (snap.ram pages) = true ∧ Memory.below (8 * pageSize) (snap.ram pages) = true := by
  induction pages generalizing n with
  | nil => exact ⟨rfl, rfl⟩
  | cons p ps ih =>
    obtain ⟨hp0, hs'⟩ := List.pairwise_cons.mp hs
    have hr := ih (p + 1) hs' (fun q hq => ⟨hp0 q hq, (hl q (List.mem_cons_of_mem _ hq)).2⟩)
      (fun q hq => hp q (List.mem_cons_of_mem _ hq))
    have h0 := hl p (List.mem_cons_self ..)
    have hb := Memory.below_ofBytes (snap.page p) (physical p 0)
    rw [hp p (List.mem_cons_self ..)] at hb
    have hw := Memory.wfFrom_ofBytes (snap.page p) (physical p 0)
    simp only [physical, pageSize, Nat.add_zero] at hb hw hr ⊢
    simp only [Snapshot.ram, List.flatMap_cons, physical, pageSize, Nat.add_zero] at hr ⊢
    have hw' : Memory.wfFrom (n * 16384) (Memory.ofBytes (p * 16384) (snap.page p)) = true :=
      Memory.wfFrom_of_le hw (by omega)
    exact ⟨Memory.wfFrom_append (by omega) hw' hb (by
        have := hr.1
        rwa [Nat.add_mul, Nat.one_mul] at this),
      Memory.below_append (Memory.below_of_le hb (by omega)) hr.2⟩

/-- The machine's RAM pages stand in rising order below the ROM pages. -/
theorem State.ramPages_sorted (s : State) : s.ramPages.Pairwise (· < ·) ∧ ∀ n ∈ s.ramPages, 0 ≤ n ∧ n < 8 := by
  refine ⟨List.Pairwise.filter _ (by decide), fun n hn => ⟨Nat.zero_le n, ?_⟩⟩
  exact List.mem_range.mp (List.mem_filter.mp hn).1

/-- The RAM of a snapshot reads back its pages. -/
theorem Snapshot.read_ram (snap : Snapshot) (pages : List Nat) (hs : pages.Pairwise (· < ·)) (hl : ∀ p ∈ pages, p < 8)
    (hp : ∀ p ∈ pages, (snap.page p).length = pageSize) {n off : Nat} (hn : n ∈ pages) (ho : off < (snap.page n).length) :
    Memory.read (snap.ram pages) (physical n off) = (snap.page n)[off] := by
  induction pages with
  | nil => cases hn
  | cons p ps ih =>
    obtain ⟨hp0, hs'⟩ := List.pairwise_cons.mp hs
    have hp' := fun q hq => hp q (List.mem_cons_of_mem p hq)
    have hb := Memory.below_ofBytes (snap.page p) (physical p 0)
    rw [hp p (List.mem_cons_self ..)] at hb
    rw [Snapshot.ram, List.flatMap_cons]
    rcases List.mem_cons.mp hn with rfl | hn
    · have hr := (Snapshot.ram_canonical snap ps (n + 1) hs'
        (fun q hq => ⟨hp0 q hq, hl q (List.mem_cons_of_mem _ hq)⟩) hp').1
      have hlen := hp n (List.mem_cons_self ..)
      refine (Memory.read_append_lt hr ?_).trans ?_
      · simp only [physical, pageSize] at *
        omega
      · have h := Memory.read_ofBytes (snap.page n) (physical n 0) off ho
        simpa only [physical, Nat.add_zero] using h
    · have hlt := hp0 n hn
      refine (Memory.read_append_ge hb ?_).trans (ih hs' (fun q hq => hl q (List.mem_cons_of_mem _ hq)) hp' hn)
      simp only [physical, pageSize] at *
      omega

/-- The snapshot of a machine has its pages whole. -/
theorem State.takeSnapshot_page (s : State) {n : Nat} (hn : n ∈ s.ramPages) : s.takeSnapshot.page n = s.pageBytes n := by
  have aux : ∀ l : List Nat, n ∈ l → (l.map fun n => (n, s.pageBytes n)).lookup n = some (s.pageBytes n) := by
    intro l
    induction l with
    | nil => exact fun h => nomatch h
    | cons p ps ih =>
      intro h
      rw [List.map_cons, List.lookup_cons]
      by_cases hnp : n = p
      · subst hnp
        simp
      · have := (List.mem_cons.mp h).resolve_left hnp
        simp [beq_false_of_ne hnp, ih this]
  simp [Snapshot.page, State.takeSnapshot, aux _ hn]

/-- A machine's own snapshot fits it. -/
theorem State.snapshotFits_takeSnapshot (s : State) : s.snapshotFits s.takeSnapshot = true := by
  have h : ∀ n ∈ s.ramPages, (s.takeSnapshot.page n).length = pageSize := fun n hn => by
    rw [s.takeSnapshot_page hn]
    simp [State.pageBytes]
  simp only [State.snapshotFits, Bool.and_eq_true, List.all_eq_true, beq_iff_eq]
  exact ⟨⟨rfl, by simp [State.takeSnapshot]⟩, h⟩

/-- A snapshot round trip (R585): a machine loads its own snapshot, and has its registers, latch, AY registers and RAM back,
but for what the format does not carry. -/
theorem State.loadSnapshot_takeSnapshot (s : State) :
    ∃ t, s.loadSnapshot s.takeSnapshot = .ok t ∧ t.ay.regs = s.ay.regs ∧
      t.cpu = { s.cpu with halted := false, intBlock := false, memptr := Config.unspecified s.draws } ∧
      (s.params.variant = .m128 → t.latch = s.latch) ∧
      ∀ n ∈ s.ramPages, ∀ off < pageSize, Memory.read t.mem (physical n off) = Memory.read s.mem (physical n off) := by
  have hm : ∀ n ∈ s.ramPages, ∀ off < pageSize,
      Memory.read (s.withSnapshot s.takeSnapshot).mem (physical n off) = Memory.read s.mem (physical n off) := by
    intro n hn off ho
    have hl : ∀ p ∈ s.ramPages, (s.takeSnapshot.page p).length = pageSize :=
      fun p hp => State.snapshotFits_page s.snapshotFits_takeSnapshot hp
    have hr := Snapshot.read_ram s.takeSnapshot s.ramPages s.ramPages_sorted.1 (fun p hp => (s.ramPages_sorted.2 p hp).2) hl hn
      (off := off) (by rw [hl n hn]; exact ho)
    have hlt : n < 8 := (s.ramPages_sorted.2 n hn).2
    have hk : Memory.read (s.withSnapshot s.takeSnapshot).mem (physical n off) =
        Memory.read (s.takeSnapshot.ram s.ramPages) (physical n off) := by
      refine Memory.read_append_of_absent fun c hc => ?_
      have h : ramEnd ≤ c.1 := of_decide_eq_true (List.mem_filter.mp hc).2
      simp only [physical, pageSize, ramEnd, romPage] at h ho ⊢
      omega
    rw [hk, hr]
    simp only [s.takeSnapshot_page hn, State.pageBytes, List.getElem_map, List.getElem_range]
  unfold State.loadSnapshot
  rw [if_pos s.snapshotFits_takeSnapshot]
  split
  · rename_i hv
    exact ⟨_, rfl, rfl, rfl, fun h => absurd (hv.symm.trans h) (by decide), hm⟩
  · exact ⟨_, rfl, rfl, rfl, fun _ => rfl, hm⟩

/-- A snapshot load keeps the memory canonical and within the pages that exist. -/
theorem State.withSnapshot_memoryOk {s : State} {snap : Snapshot} (h : s.MemoryOk) (hf : s.snapshotFits snap = true) :
    (s.withSnapshot snap).MemoryOk := by
  have hr := Snapshot.ram_canonical snap s.ramPages 0 s.ramPages_sorted.1 s.ramPages_sorted.2
    fun p hp => State.snapshotFits_page hf hp
  refine ⟨Memory.wfFrom_append (n := ramEnd) (Nat.zero_le _) (by simpa using hr.1) hr.2 (Memory.wfFrom_above h.1), ?_⟩
  exact Memory.below_append (Memory.below_of_le hr.2 (by decide)) (Memory.below_filter _ h.2)

/-- Loading a ROM image keeps the memory canonical and within the pages that exist. -/
theorem State.loadRom_memoryOk {s t : State} {k : RomKind} {image : List Byte} (h : s.MemoryOk)
    (ht : s.loadRom k image = .ok t) : t.MemoryOk := by
  unfold State.loadRom at ht
  split at ht
  · rename_i hl
    cases ht
    have hb := Memory.below_ofBytes image (physical (romPage k) 0)
    rw [hl] at hb
    have hlt := Memory.below_filter_lt s.mem (physical (romPage k) 0)
    have hend : physical (romPage k) 0 + pageSize ≤ pageCount * pageSize := by cases k <;> decide
    constructor
    · refine Memory.wfFrom_append (n := physical (romPage k) 0 + pageSize) (Nat.zero_le _) ?_ ?_ (Memory.wfFrom_above h.1)
      · exact Memory.wfFrom_append (Nat.zero_le _) (Memory.wfFrom_filter _ h.1) hlt (Memory.wfFrom_ofBytes _ _)
      · exact Memory.below_append (Memory.below_of_le hlt (Nat.le_add_right _ _)) hb
    · refine Memory.below_append (Memory.below_append ?_ (Memory.below_of_le hb hend)) (Memory.below_filter _ h.2)
      exact Memory.below_filter _ h.2
  · cases ht

end Sys2Proof.Machine
end

