-- ==== Sys2Proof/Laws/PerInstr.lean ====
section
/-! SUPPORT. Per instruction: a well-formed instruction's encoding is exactly as long as the instruction (spec/30_encoding.md
R156), counting the byte a redundant prefix looks at. -/

namespace Sys2Proof.Laws.EncodedLength

/-- The length of the encoding of an instruction. -/
def Statement (i : Instr) : Prop := i.wellFormed = true → (encode i).length = i.length + i.lookahead

/-- The same of an instruction an escape holds: it looks at no byte past its own. -/
theorem of_escapable (i : Instr) (h : i.escapable = true) : (encode i).length = i.length := by
  cases i <;> first | rfl | exact absurd h Bool.false_ne_true

theorem nop : Statement .nop := fun _ => rfl
theorem exAfAf : Statement .exAfAf := fun _ => rfl
theorem djnz (e : Byte) : Statement (.djnz e) := fun _ => rfl
theorem jr (e : Byte) : Statement (.jr e) := fun _ => rfl
theorem jrCc (cc : JrCond) (e : Byte) : Statement (.jrCc cc e) := fun _ => rfl
theorem ldRrNn (p : RegPair) (nn : Word) : Statement (.ldRrNn p nn) := fun _ => rfl
theorem addHlRr (p : RegPair) : Statement (.addHlRr p) := fun _ => rfl
theorem ldMBcA : Statement .ldMBcA := fun _ => rfl
theorem ldMDeA : Statement .ldMDeA := fun _ => rfl
theorem ldMNnHl (nn : Word) : Statement (.ldMNnHl nn) := fun _ => rfl
theorem ldMNnA (nn : Word) : Statement (.ldMNnA nn) := fun _ => rfl
theorem ldAMBc : Statement .ldAMBc := fun _ => rfl
theorem ldAMDe : Statement .ldAMDe := fun _ => rfl
theorem ldHlMNn (nn : Word) : Statement (.ldHlMNn nn) := fun _ => rfl
theorem ldAMNn (nn : Word) : Statement (.ldAMNn nn) := fun _ => rfl
theorem incRr (p : RegPair) : Statement (.incRr p) := fun _ => rfl
theorem decRr (p : RegPair) : Statement (.decRr p) := fun _ => rfl
theorem incR (r : Reg8) : Statement (.incR r) := fun _ => rfl
theorem incMHl : Statement .incMHl := fun _ => rfl
theorem decR (r : Reg8) : Statement (.decR r) := fun _ => rfl
theorem decMHl : Statement .decMHl := fun _ => rfl
theorem ldRN (r : Reg8) (n : Byte) : Statement (.ldRN r n) := fun _ => rfl
theorem ldMHlN (n : Byte) : Statement (.ldMHlN n) := fun _ => rfl
theorem rlca : Statement .rlca := fun _ => rfl
theorem rrca : Statement .rrca := fun _ => rfl
theorem rla : Statement .rla := fun _ => rfl
theorem rra : Statement .rra := fun _ => rfl
theorem daa : Statement .daa := fun _ => rfl
theorem cpl : Statement .cpl := fun _ => rfl
theorem scf : Statement .scf := fun _ => rfl
theorem ccf : Statement .ccf := fun _ => rfl
theorem ldRR (t : Reg8) (r : Reg8) : Statement (.ldRR t r) := fun _ => rfl
theorem ldRMHl (r : Reg8) : Statement (.ldRMHl r) := fun _ => rfl
theorem ldMHlR (r : Reg8) : Statement (.ldMHlR r) := fun _ => rfl
theorem halt : Statement .halt := fun _ => rfl
theorem addAR (r : Reg8) : Statement (.addAR r) := fun _ => rfl
theorem addAMHl : Statement .addAMHl := fun _ => rfl
theorem addAN (n : Byte) : Statement (.addAN n) := fun _ => rfl
theorem adcAR (r : Reg8) : Statement (.adcAR r) := fun _ => rfl
theorem adcAMHl : Statement .adcAMHl := fun _ => rfl
theorem adcAN (n : Byte) : Statement (.adcAN n) := fun _ => rfl
theorem subR (r : Reg8) : Statement (.subR r) := fun _ => rfl
theorem subMHl : Statement .subMHl := fun _ => rfl
theorem subN (n : Byte) : Statement (.subN n) := fun _ => rfl
theorem sbcAR (r : Reg8) : Statement (.sbcAR r) := fun _ => rfl
theorem sbcAMHl : Statement .sbcAMHl := fun _ => rfl
theorem sbcAN (n : Byte) : Statement (.sbcAN n) := fun _ => rfl
theorem andR (r : Reg8) : Statement (.andR r) := fun _ => rfl
theorem andMHl : Statement .andMHl := fun _ => rfl
theorem andN (n : Byte) : Statement (.andN n) := fun _ => rfl
theorem xorR (r : Reg8) : Statement (.xorR r) := fun _ => rfl
theorem xorMHl : Statement .xorMHl := fun _ => rfl
theorem xorN (n : Byte) : Statement (.xorN n) := fun _ => rfl
theorem orR (r : Reg8) : Statement (.orR r) := fun _ => rfl
theorem orMHl : Statement .orMHl := fun _ => rfl
theorem orN (n : Byte) : Statement (.orN n) := fun _ => rfl
theorem cpR (r : Reg8) : Statement (.cpR r) := fun _ => rfl
theorem cpMHl : Statement .cpMHl := fun _ => rfl
theorem cpN (n : Byte) : Statement (.cpN n) := fun _ => rfl
theorem retCc (cc : Cond) : Statement (.retCc cc) := fun _ => rfl
theorem popQq (q : StackPair) : Statement (.popQq q) := fun _ => rfl
theorem ret : Statement .ret := fun _ => rfl
theorem exx : Statement .exx := fun _ => rfl
theorem jpMHl : Statement .jpMHl := fun _ => rfl
theorem ldSpHl : Statement .ldSpHl := fun _ => rfl
theorem jpCcNn (cc : Cond) (nn : Word) : Statement (.jpCcNn cc nn) := fun _ => rfl
theorem jpNn (nn : Word) : Statement (.jpNn nn) := fun _ => rfl
theorem outMNA (n : Byte) : Statement (.outMNA n) := fun _ => rfl
theorem inAMN (n : Byte) : Statement (.inAMN n) := fun _ => rfl
theorem exMSpHl : Statement .exMSpHl := fun _ => rfl
theorem exDeHl : Statement .exDeHl := fun _ => rfl
theorem di : Statement .di := fun _ => rfl
theorem ei : Statement .ei := fun _ => rfl
theorem callCcNn (cc : Cond) (nn : Word) : Statement (.callCcNn cc nn) := fun _ => rfl
theorem pushQq (q : StackPair) : Statement (.pushQq q) := fun _ => rfl
theorem callNn (nn : Word) : Statement (.callNn nn) := fun _ => rfl
theorem rstP (y : BitVec 3) : Statement (.rstP y) := fun _ => rfl
theorem rlcR (r : Reg8) : Statement (.rlcR r) := fun _ => rfl
theorem rlcMHl : Statement .rlcMHl := fun _ => rfl
theorem rrcR (r : Reg8) : Statement (.rrcR r) := fun _ => rfl
theorem rrcMHl : Statement .rrcMHl := fun _ => rfl
theorem rlR (r : Reg8) : Statement (.rlR r) := fun _ => rfl
theorem rlMHl : Statement .rlMHl := fun _ => rfl
theorem rrR (r : Reg8) : Statement (.rrR r) := fun _ => rfl
theorem rrMHl : Statement .rrMHl := fun _ => rfl
theorem slaR (r : Reg8) : Statement (.slaR r) := fun _ => rfl
theorem slaMHl : Statement .slaMHl := fun _ => rfl
theorem sraR (r : Reg8) : Statement (.sraR r) := fun _ => rfl
theorem sraMHl : Statement .sraMHl := fun _ => rfl
theorem sllR (r : Reg8) : Statement (.sllR r) := fun _ => rfl
theorem sllMHl : Statement .sllMHl := fun _ => rfl
theorem srlR (r : Reg8) : Statement (.srlR r) := fun _ => rfl
theorem srlMHl : Statement .srlMHl := fun _ => rfl
theorem bitBR (b : BitVec 3) (r : Reg8) : Statement (.bitBR b r) := fun _ => rfl
theorem bitBMHl (b : BitVec 3) : Statement (.bitBMHl b) := fun _ => rfl
theorem resBR (b : BitVec 3) (r : Reg8) : Statement (.resBR b r) := fun _ => rfl
theorem resBMHl (b : BitVec 3) : Statement (.resBMHl b) := fun _ => rfl
theorem setBR (b : BitVec 3) (r : Reg8) : Statement (.setBR b r) := fun _ => rfl
theorem setBMHl (b : BitVec 3) : Statement (.setBMHl b) := fun _ => rfl
theorem inRMC (r : Reg8) : Statement (.inRMC r) := fun _ => rfl
theorem inFMC : Statement .inFMC := fun _ => rfl
theorem outMCR (r : Reg8) : Statement (.outMCR r) := fun _ => rfl
theorem outMC0 : Statement .outMC0 := fun _ => rfl
theorem sbcHlRr (p : RegPair) : Statement (.sbcHlRr p) := fun _ => rfl
theorem adcHlRr (p : RegPair) : Statement (.adcHlRr p) := fun _ => rfl
theorem ldMNnRr (p : RegPair) (nn : Word) : Statement (.ldMNnRr p nn) := fun _ => rfl
theorem ldRrMNn (p : RegPair) (nn : Word) : Statement (.ldRrMNn p nn) := fun _ => rfl
theorem neg (y : BitVec 3) : Statement (.neg y) := fun _ => rfl
theorem reti : Statement .reti := fun _ => rfl
theorem retn (y : BitVec 3) : Statement (.retn y) := fun _ => rfl
theorem im0 (y : BitVec 3) : Statement (.im0 y) := fun _ => rfl
theorem im1 (y : BitVec 3) : Statement (.im1 y) := fun _ => rfl
theorem im2 (y : BitVec 3) : Statement (.im2 y) := fun _ => rfl
theorem ldIA : Statement .ldIA := fun _ => rfl
theorem ldRA : Statement .ldRA := fun _ => rfl
theorem ldAI : Statement .ldAI := fun _ => rfl
theorem ldAR : Statement .ldAR := fun _ => rfl
theorem rrd : Statement .rrd := fun _ => rfl
theorem rld : Statement .rld := fun _ => rfl
theorem ldi : Statement .ldi := fun _ => rfl
theorem cpi : Statement .cpi := fun _ => rfl
theorem ini : Statement .ini := fun _ => rfl
theorem outi : Statement .outi := fun _ => rfl
theorem ldd : Statement .ldd := fun _ => rfl
theorem cpd : Statement .cpd := fun _ => rfl
theorem ind : Statement .ind := fun _ => rfl
theorem outd : Statement .outd := fun _ => rfl
theorem ldir : Statement .ldir := fun _ => rfl
theorem cpir : Statement .cpir := fun _ => rfl
theorem inir : Statement .inir := fun _ => rfl
theorem otir : Statement .otir := fun _ => rfl
theorem lddr : Statement .lddr := fun _ => rfl
theorem cpdr : Statement .cpdr := fun _ => rfl
theorem indr : Statement .indr := fun _ => rfl
theorem otdr : Statement .otdr := fun _ => rfl
theorem nopStar (op : Byte) : Statement (.nopStar op) := fun _ => rfl
theorem ldIxNn (nn : Word) : Statement (.ldIxNn nn) := fun _ => rfl
theorem ldMNnIx (nn : Word) : Statement (.ldMNnIx nn) := fun _ => rfl
theorem ldIxMNn (nn : Word) : Statement (.ldIxMNn nn) := fun _ => rfl
theorem addIxRr (p : IdxPair) : Statement (.addIxRr p) := fun _ => rfl
theorem incIx : Statement .incIx := fun _ => rfl
theorem decIx : Statement .decIx := fun _ => rfl
theorem incIxh (h : Half) : Statement (.incIxh h) := fun _ => rfl
theorem decIxh (h : Half) : Statement (.decIxh h) := fun _ => rfl
theorem ldIxhN (h : Half) (n : Byte) : Statement (.ldIxhN h n) := fun _ => rfl
theorem incMIxd (d : Byte) : Statement (.incMIxd d) := fun _ => rfl
theorem decMIxd (d : Byte) : Statement (.decMIxd d) := fun _ => rfl
theorem ldMIxdN (d : Byte) (n : Byte) : Statement (.ldMIxdN d n) := fun _ => rfl
theorem ldRIxh (t : HReg) (r : HReg) : Statement (.ldRIxh t r) := fun _ => rfl
theorem ldRMIxd (r : Reg8) (d : Byte) : Statement (.ldRMIxd r d) := fun _ => rfl
theorem ldMIxdR (d : Byte) (r : Reg8) : Statement (.ldMIxdR d r) := fun _ => rfl
theorem popIx : Statement .popIx := fun _ => rfl
theorem exMSpIx : Statement .exMSpIx := fun _ => rfl
theorem pushIx : Statement .pushIx := fun _ => rfl
theorem jpMIx : Statement .jpMIx := fun _ => rfl
theorem ldSpIx : Statement .ldSpIx := fun _ => rfl
theorem addAMIxd (d : Byte) : Statement (.addAMIxd d) := fun _ => rfl
theorem adcAMIxd (d : Byte) : Statement (.adcAMIxd d) := fun _ => rfl
theorem subMIxd (d : Byte) : Statement (.subMIxd d) := fun _ => rfl
theorem sbcAMIxd (d : Byte) : Statement (.sbcAMIxd d) := fun _ => rfl
theorem andMIxd (d : Byte) : Statement (.andMIxd d) := fun _ => rfl
theorem xorMIxd (d : Byte) : Statement (.xorMIxd d) := fun _ => rfl
theorem orMIxd (d : Byte) : Statement (.orMIxd d) := fun _ => rfl
theorem cpMIxd (d : Byte) : Statement (.cpMIxd d) := fun _ => rfl
theorem ddRedundant (f : PrefixByte) : Statement (.ddRedundant f) := fun _ => rfl
theorem ddEscape (i : Instr) : Statement (.ddEscape i) := fun h => by
  simp [encode, Instr.length, Instr.lookahead, of_escapable i h, Nat.add_comm]
theorem rlcMIxd (d : Byte) : Statement (.rlcMIxd d) := fun _ => rfl
theorem rrcMIxd (d : Byte) : Statement (.rrcMIxd d) := fun _ => rfl
theorem rlMIxd (d : Byte) : Statement (.rlMIxd d) := fun _ => rfl
theorem rrMIxd (d : Byte) : Statement (.rrMIxd d) := fun _ => rfl
theorem slaMIxd (d : Byte) : Statement (.slaMIxd d) := fun _ => rfl
theorem sraMIxd (d : Byte) : Statement (.sraMIxd d) := fun _ => rfl
theorem sllMIxd (d : Byte) : Statement (.sllMIxd d) := fun _ => rfl
theorem srlMIxd (d : Byte) : Statement (.srlMIxd d) := fun _ => rfl
theorem rotMIxdR (o : Rot) (d : Byte) (r : Reg8) : Statement (.rotMIxdR o d r) := fun _ => rfl
theorem bitBMIxd (b : BitVec 3) (d : Byte) (z : BitVec 3) : Statement (.bitBMIxd b d z) := fun _ => rfl
theorem resBMIxd (b : BitVec 3) (d : Byte) : Statement (.resBMIxd b d) := fun _ => rfl
theorem setBMIxd (b : BitVec 3) (d : Byte) : Statement (.setBMIxd b d) := fun _ => rfl
theorem resBMIxdR (b : BitVec 3) (d : Byte) (r : Reg8) : Statement (.resBMIxdR b d r) := fun _ => rfl
theorem setBMIxdR (b : BitVec 3) (d : Byte) (r : Reg8) : Statement (.setBMIxdR b d r) := fun _ => rfl
theorem ldIyNn (nn : Word) : Statement (.ldIyNn nn) := fun _ => rfl
theorem ldMNnIy (nn : Word) : Statement (.ldMNnIy nn) := fun _ => rfl
theorem ldIyMNn (nn : Word) : Statement (.ldIyMNn nn) := fun _ => rfl
theorem addIyRr (p : IdxPair) : Statement (.addIyRr p) := fun _ => rfl
theorem incIy : Statement .incIy := fun _ => rfl
theorem decIy : Statement .decIy := fun _ => rfl
theorem incIyh (h : Half) : Statement (.incIyh h) := fun _ => rfl
theorem decIyh (h : Half) : Statement (.decIyh h) := fun _ => rfl
theorem ldIyhN (h : Half) (n : Byte) : Statement (.ldIyhN h n) := fun _ => rfl
theorem incMIyd (d : Byte) : Statement (.incMIyd d) := fun _ => rfl
theorem decMIyd (d : Byte) : Statement (.decMIyd d) := fun _ => rfl
theorem ldMIydN (d : Byte) (n : Byte) : Statement (.ldMIydN d n) := fun _ => rfl
theorem ldRIyh (t : HReg) (r : HReg) : Statement (.ldRIyh t r) := fun _ => rfl
theorem ldRMIyd (r : Reg8) (d : Byte) : Statement (.ldRMIyd r d) := fun _ => rfl
theorem ldMIydR (d : Byte) (r : Reg8) : Statement (.ldMIydR d r) := fun _ => rfl
theorem popIy : Statement .popIy := fun _ => rfl
theorem exMSpIy : Statement .exMSpIy := fun _ => rfl
theorem pushIy : Statement .pushIy := fun _ => rfl
theorem jpMIy : Statement .jpMIy := fun _ => rfl
theorem ldSpIy : Statement .ldSpIy := fun _ => rfl
theorem addAMIyd (d : Byte) : Statement (.addAMIyd d) := fun _ => rfl
theorem adcAMIyd (d : Byte) : Statement (.adcAMIyd d) := fun _ => rfl
theorem subMIyd (d : Byte) : Statement (.subMIyd d) := fun _ => rfl
theorem sbcAMIyd (d : Byte) : Statement (.sbcAMIyd d) := fun _ => rfl
theorem andMIyd (d : Byte) : Statement (.andMIyd d) := fun _ => rfl
theorem xorMIyd (d : Byte) : Statement (.xorMIyd d) := fun _ => rfl
theorem orMIyd (d : Byte) : Statement (.orMIyd d) := fun _ => rfl
theorem cpMIyd (d : Byte) : Statement (.cpMIyd d) := fun _ => rfl
theorem fdRedundant (f : PrefixByte) : Statement (.fdRedundant f) := fun _ => rfl
theorem fdEscape (i : Instr) : Statement (.fdEscape i) := fun h => by
  simp [encode, Instr.length, Instr.lookahead, of_escapable i h, Nat.add_comm]
theorem rlcMIyd (d : Byte) : Statement (.rlcMIyd d) := fun _ => rfl
theorem rrcMIyd (d : Byte) : Statement (.rrcMIyd d) := fun _ => rfl
theorem rlMIyd (d : Byte) : Statement (.rlMIyd d) := fun _ => rfl
theorem rrMIyd (d : Byte) : Statement (.rrMIyd d) := fun _ => rfl
theorem slaMIyd (d : Byte) : Statement (.slaMIyd d) := fun _ => rfl
theorem sraMIyd (d : Byte) : Statement (.sraMIyd d) := fun _ => rfl
theorem sllMIyd (d : Byte) : Statement (.sllMIyd d) := fun _ => rfl
theorem srlMIyd (d : Byte) : Statement (.srlMIyd d) := fun _ => rfl
theorem rotMIydR (o : Rot) (d : Byte) (r : Reg8) : Statement (.rotMIydR o d r) := fun _ => rfl
theorem bitBMIyd (b : BitVec 3) (d : Byte) (z : BitVec 3) : Statement (.bitBMIyd b d z) := fun _ => rfl
theorem resBMIyd (b : BitVec 3) (d : Byte) : Statement (.resBMIyd b d) := fun _ => rfl
theorem setBMIyd (b : BitVec 3) (d : Byte) : Statement (.setBMIyd b d) := fun _ => rfl
theorem resBMIydR (b : BitVec 3) (d : Byte) (r : Reg8) : Statement (.resBMIydR b d r) := fun _ => rfl
theorem setBMIydR (b : BitVec 3) (d : Byte) (r : Reg8) : Statement (.setBMIydR b d r) := fun _ => rfl
theorem addAXh (x : IdxReg) (h : Half) : Statement (.addAXh x h) := fun _ => rfl
theorem adcAXh (x : IdxReg) (h : Half) : Statement (.adcAXh x h) := fun _ => rfl
theorem subXh (x : IdxReg) (h : Half) : Statement (.subXh x h) := fun _ => rfl
theorem sbcAXh (x : IdxReg) (h : Half) : Statement (.sbcAXh x h) := fun _ => rfl
theorem andXh (x : IdxReg) (h : Half) : Statement (.andXh x h) := fun _ => rfl
theorem xorXh (x : IdxReg) (h : Half) : Statement (.xorXh x h) := fun _ => rfl
theorem orXh (x : IdxReg) (h : Half) : Statement (.orXh x h) := fun _ => rfl
theorem cpXh (x : IdxReg) (h : Half) : Statement (.cpXh x h) := fun _ => rfl

end Sys2Proof.Laws.EncodedLength
end

