-- ==== Sys2Proof/Laws/Timing.lean ====
section
/-! SUPPORT. What the cost table can answer: the bounds of its figures, and when the machine charges them. -/

namespace Sys2Proof

/-- The table's costs lie between 4 and 23 T-states. -/
theorem Instr.tstates_bounds (i : Instr) : 4 ≤ i.tstates ∧ i.tstates ≤ 23 := by
  cases i <;> exact ⟨Nat.le_of_ble_eq_true rfl, Nat.le_of_ble_eq_true rfl⟩

theorem Instr.tstatesTaken_bounds (i : Instr) : 4 ≤ i.tstatesTaken ∧ i.tstatesTaken ≤ 23 := by
  cases i <;> exact ⟨Nat.le_of_ble_eq_true rfl, Nat.le_of_ble_eq_true rfl⟩

/-- A row that the machine's own table does not replace costs what spec/opcode_table.json says. -/
theorem Params.cost_of_absent {p : Params} {i : Instr} (h : ∀ r ∈ p.tstates, r.row ≠ i.row) :
    p.cost i = i.tstates ∧ p.costTaken i = i.tstatesTaken := by
  have hn : p.costRow i = none := by
    simp only [Params.costRow, List.find?_eq_none, beq_iff_eq]
    exact h
  simp [Params.cost, Params.costTaken, hn]

/-- The first row for an instruction in the machine's own table is what it costs. -/
theorem Params.cost_of_row {p : Params} {i : Instr} {r : CostRow} (h : p.costRow i = some r) :
    p.cost i = r.tstates ∧ p.costTaken i = r.taken := by
  simp [Params.cost, Params.costTaken, h]

end Sys2Proof
end

