-- ==== Sys2Proof/Tests/Slice0.lean ====
section
/-! SUPPORT. The model's own tests: ill-formed terms that WellFormed refuses, the decoding of every constructor from bytes
written out from the bit patterns of spec/opcode_table.json, single steps whose results are those of
spec/95_test_vectors.md, and for each statement with hypotheses a state that meets them. -/

namespace Sys2Proof.Tests

open Sys2Proof.Machine Sys2Proof.Claims

/-! ## WellFormed refuses an ill-formed term, check by check -/

theorem test_ill_formed_retn : (Instr.retn 1).wellFormed = false := by decide
theorem test_ill_formed_im0 : (Instr.im0 2).wellFormed = false := by decide
theorem test_ill_formed_im1 : (Instr.im1 3).wellFormed = false := by decide
theorem test_ill_formed_im2 : (Instr.im2 0).wellFormed = false := by decide
theorem test_ill_formed_nop_star : (Instr.nopStar 0x44).wellFormed = false := by decide
theorem test_ill_formed_nop_star_block : (Instr.nopStar 0xA3).wellFormed = false := by decide
theorem test_ill_formed_ixh : (Instr.ldRIxh .b .a).wellFormed = false := by decide
theorem test_ill_formed_iyh : (Instr.ldRIyh .c .d).wellFormed = false := by decide
theorem test_ill_formed_escape_hl : (Instr.ddEscape .ldSpHl).wellFormed = false := by decide
theorem test_ill_formed_escape_h : (Instr.fdEscape (.incR .h)).wellFormed = false := by decide
theorem test_ill_formed_escape_twice : (Instr.ddEscape (.fdEscape .nop)).wellFormed = false := by decide
theorem test_ill_formed_escape_cb : (Instr.fdEscape (.rlcR .b)).wellFormed = false := by decide

/-! ## Decoding -/

/-- The bytes decode to the instruction. -/
def decodesTo (bytes : List Byte) (i : Instr) : Bool :=
  match decode bytes with
  | .ok j => decide (j = i)
  | .error _ => false

/-- Every list of bytes decodes to the instruction beside it. -/
def allDecode (cases : List (List Byte × Instr)) : Bool := cases.all fun c => decodesTo c.1 c.2

theorem test_decode_empty : decode [] = .error .truncated := rfl
theorem test_decode_truncated : decode [0xDD, 0x36, 0x05] = .error .truncated := rfl

theorem test_decode_base_0 : allDecode
    [([0x00, 0x00, 0x00, 0x00], .nop), ([0x08, 0x00, 0x00, 0x00], .exAfAf), ([0x10, 0x92, 0x00, 0x00], .djnz 0x92),
      ([0x18, 0x93, 0x00, 0x00], .jr 0x93), ([0x20, 0x94, 0x00, 0x00], .jrCc .nz 0x94),
      ([0x11, 0x36, 0xD1, 0x00], .ldRrNn .de 0xD136), ([0x29, 0x00, 0x00, 0x00], .addHlRr .hl),
      ([0x02, 0x00, 0x00, 0x00], .ldMBcA), ([0x12, 0x00, 0x00, 0x00], .ldMDeA),
      ([0x22, 0x3A, 0xDD, 0x00], .ldMNnHl 0xDD3A), ([0x32, 0x3B, 0xE0, 0x00], .ldMNnA 0xE03B),
      ([0x0A, 0x00, 0x00, 0x00], .ldAMBc), ([0x1A, 0x00, 0x00, 0x00], .ldAMDe),
      ([0x2A, 0x3E, 0xE9, 0x00], .ldHlMNn 0xE93E), ([0x3A, 0x3F, 0xEC, 0x00], .ldAMNn 0xEC3F),
      ([0x33, 0x00, 0x00, 0x00], .incRr .sp)] = true := by decide

theorem test_decode_base_1 : allDecode
    [([0x0B, 0x00, 0x00, 0x00], .decRr .bc), ([0x24, 0x00, 0x00, 0x00], .incR .h), ([0x34, 0x00, 0x00, 0x00], .incMHl),
      ([0x2D, 0x00, 0x00, 0x00], .decR .l), ([0x35, 0x00, 0x00, 0x00], .decMHl), ([0x1E, 0xBC, 0x00, 0x00], .ldRN .e 0xBC),
      ([0x36, 0xBD, 0x00, 0x00], .ldMHlN 0xBD), ([0x07, 0x00, 0x00, 0x00], .rlca), ([0x0F, 0x00, 0x00, 0x00], .rrca),
      ([0x17, 0x00, 0x00, 0x00], .rla), ([0x1F, 0x00, 0x00, 0x00], .rra), ([0x27, 0x00, 0x00, 0x00], .daa),
      ([0x2F, 0x00, 0x00, 0x00], .cpl), ([0x37, 0x00, 0x00, 0x00], .scf), ([0x3F, 0x00, 0x00, 0x00], .ccf),
      ([0x61, 0x00, 0x00, 0x00], .ldRR .h .c)] = true := by decide

theorem test_decode_base_2 : allDecode
    [([0x4E, 0x00, 0x00, 0x00], .ldRMHl .c), ([0x74, 0x00, 0x00, 0x00], .ldMHlR .h), ([0x76, 0x00, 0x00, 0x00], .halt),
      ([0x82, 0x00, 0x00, 0x00], .addAR .d), ([0x86, 0x00, 0x00, 0x00], .addAMHl), ([0xC6, 0xCC, 0x00, 0x00], .addAN 0xCC),
      ([0x89, 0x00, 0x00, 0x00], .adcAR .c), ([0x8E, 0x00, 0x00, 0x00], .adcAMHl), ([0xCE, 0xCF, 0x00, 0x00], .adcAN 0xCF),
      ([0x93, 0x00, 0x00, 0x00], .subR .e), ([0x96, 0x00, 0x00, 0x00], .subMHl), ([0xD6, 0xD2, 0x00, 0x00], .subN 0xD2),
      ([0x9F, 0x00, 0x00, 0x00], .sbcAR .a), ([0x9E, 0x00, 0x00, 0x00], .sbcAMHl), ([0xDE, 0xD5, 0x00, 0x00], .sbcAN 0xD5),
      ([0xA4, 0x00, 0x00, 0x00], .andR .h)] = true := by decide

theorem test_decode_base_3 : allDecode
    [([0xA6, 0x00, 0x00, 0x00], .andMHl), ([0xE6, 0xD8, 0x00, 0x00], .andN 0xD8), ([0xAD, 0x00, 0x00, 0x00], .xorR .l),
      ([0xAE, 0x00, 0x00, 0x00], .xorMHl), ([0xEE, 0xDB, 0x00, 0x00], .xorN 0xDB), ([0xB0, 0x00, 0x00, 0x00], .orR .b),
      ([0xB6, 0x00, 0x00, 0x00], .orMHl), ([0xF6, 0xDE, 0x00, 0x00], .orN 0xDE), ([0xBA, 0x00, 0x00, 0x00], .cpR .d),
      ([0xBE, 0x00, 0x00, 0x00], .cpMHl), ([0xFE, 0xE1, 0x00, 0x00], .cpN 0xE1), ([0xC8, 0x00, 0x00, 0x00], .retCc .z),
      ([0xC1, 0x00, 0x00, 0x00], .popQq .bc), ([0xC9, 0x00, 0x00, 0x00], .ret), ([0xD9, 0x00, 0x00, 0x00], .exx),
      ([0xE9, 0x00, 0x00, 0x00], .jpMHl)] = true := by decide

theorem test_decode_base_4 : allDecode
    [([0xF9, 0x00, 0x00, 0x00], .ldSpHl), ([0xFA, 0x72, 0x85, 0x00], .jpCcNn .m 0x8572),
      ([0xC3, 0x73, 0x88, 0x00], .jpNn 0x8873), ([0xD3, 0xEA, 0x00, 0x00], .outMNA 0xEA),
      ([0xDB, 0xEB, 0x00, 0x00], .inAMN 0xEB), ([0xE3, 0x00, 0x00, 0x00], .exMSpHl), ([0xEB, 0x00, 0x00, 0x00], .exDeHl),
      ([0xF3, 0x00, 0x00, 0x00], .di), ([0xFB, 0x00, 0x00, 0x00], .ei), ([0xFC, 0x7A, 0x9D, 0x00], .callCcNn .m 0x9D7A),
      ([0xE5, 0x00, 0x00, 0x00], .pushQq .hl), ([0xCD, 0x7C, 0xA3, 0x00], .callNn 0xA37C),
      ([0xEF, 0x00, 0x00, 0x00], .rstP 5)] = true := by decide

theorem test_decode_cb_0 : allDecode
    [([0xCB, 0x02, 0x00, 0x00], .rlcR .d), ([0xCB, 0x06, 0x00, 0x00], .rlcMHl), ([0xCB, 0x0F, 0x00, 0x00], .rrcR .a),
      ([0xCB, 0x0E, 0x00, 0x00], .rrcMHl), ([0xCB, 0x10, 0x00, 0x00], .rlR .b), ([0xCB, 0x16, 0x00, 0x00], .rlMHl),
      ([0xCB, 0x1B, 0x00, 0x00], .rrR .e), ([0xCB, 0x1E, 0x00, 0x00], .rrMHl), ([0xCB, 0x25, 0x00, 0x00], .slaR .l),
      ([0xCB, 0x26, 0x00, 0x00], .slaMHl), ([0xCB, 0x29, 0x00, 0x00], .sraR .c), ([0xCB, 0x2E, 0x00, 0x00], .sraMHl),
      ([0xCB, 0x34, 0x00, 0x00], .sllR .h), ([0xCB, 0x36, 0x00, 0x00], .sllMHl), ([0xCB, 0x3A, 0x00, 0x00], .srlR .d),
      ([0xCB, 0x3E, 0x00, 0x00], .srlMHl)] = true := by decide

theorem test_decode_cb_1 : allDecode
    [([0xCB, 0x67, 0x00, 0x00], .bitBR 4 .a), ([0xCB, 0x7E, 0x00, 0x00], .bitBMHl 7),
      ([0xCB, 0x90, 0x00, 0x00], .resBR 2 .b), ([0xCB, 0xAE, 0x00, 0x00], .resBMHl 5),
      ([0xCB, 0xC3, 0x00, 0x00], .setBR 0 .e), ([0xCB, 0xDE, 0x00, 0x00], .setBMHl 3)] = true := by decide

theorem test_decode_ed_0 : allDecode
    [([0xED, 0x40, 0x00, 0x00], .inRMC .b), ([0xED, 0x70, 0x00, 0x00], .inFMC), ([0xED, 0x61, 0x00, 0x00], .outMCR .h),
      ([0xED, 0x71, 0x00, 0x00], .outMC0), ([0xED, 0x72, 0x00, 0x00], .sbcHlRr .sp),
      ([0xED, 0x4A, 0x00, 0x00], .adcHlRr .bc), ([0xED, 0x53, 0x9A, 0xFD], .ldMNnRr .de 0xFD9A),
      ([0xED, 0x6B, 0x9B, 0x00], .ldRrMNn .hl 0x009B), ([0xED, 0x7C, 0x00, 0x00], .neg 7),
      ([0xED, 0x4D, 0x00, 0x00], .reti), ([0xED, 0x75, 0x00, 0x00], .retn 6), ([0xED, 0x6E, 0x00, 0x00], .im0 5),
      ([0xED, 0x76, 0x00, 0x00], .im1 6), ([0xED, 0x5E, 0x00, 0x00], .im2 3), ([0xED, 0x47, 0x00, 0x00], .ldIA),
      ([0xED, 0x4F, 0x00, 0x00], .ldRA)] = true := by decide

theorem test_decode_ed_1 : allDecode
    [([0xED, 0x57, 0x00, 0x00], .ldAI), ([0xED, 0x5F, 0x00, 0x00], .ldAR), ([0xED, 0x67, 0x00, 0x00], .rrd),
      ([0xED, 0x6F, 0x00, 0x00], .rld), ([0xED, 0xA0, 0x00, 0x00], .ldi), ([0xED, 0xA1, 0x00, 0x00], .cpi),
      ([0xED, 0xA2, 0x00, 0x00], .ini), ([0xED, 0xA3, 0x00, 0x00], .outi), ([0xED, 0xA8, 0x00, 0x00], .ldd),
      ([0xED, 0xA9, 0x00, 0x00], .cpd), ([0xED, 0xAA, 0x00, 0x00], .ind), ([0xED, 0xAB, 0x00, 0x00], .outd),
      ([0xED, 0xB0, 0x00, 0x00], .ldir), ([0xED, 0xB1, 0x00, 0x00], .cpir), ([0xED, 0xB2, 0x00, 0x00], .inir),
      ([0xED, 0xB3, 0x00, 0x00], .otir)] = true := by decide

theorem test_decode_ed_2 : allDecode
    [([0xED, 0xB8, 0x00, 0x00], .lddr), ([0xED, 0xB9, 0x00, 0x00], .cpdr), ([0xED, 0xBA, 0x00, 0x00], .indr),
      ([0xED, 0xBB, 0x00, 0x00], .otdr), ([0xED, 0xA5, 0x00, 0x00], .nopStar 0xA5)] = true := by decide

theorem test_decode_dd_0 : allDecode
    [([0xDD, 0x21, 0xB9, 0x5A], .ldIxNn 0x5AB9), ([0xDD, 0x22, 0xBA, 0x5D], .ldMNnIx 0x5DBA),
      ([0xDD, 0x2A, 0xBB, 0x60], .ldIxMNn 0x60BB), ([0xDD, 0x39, 0x00, 0x00], .addIxRr .sp),
      ([0xDD, 0x23, 0x00, 0x00], .incIx), ([0xDD, 0x2B, 0x00, 0x00], .decIx), ([0xDD, 0x24, 0x00, 0x00], .incIxh .hi),
      ([0xDD, 0x2D, 0x00, 0x00], .decIxh .lo), ([0xDD, 0x26, 0x37, 0x00], .ldIxhN .hi 0x37),
      ([0xDD, 0x34, 0x6A, 0x00], .incMIxd 0x6A), ([0xDD, 0x35, 0x69, 0x00], .decMIxd 0x69),
      ([0xDD, 0x36, 0x68, 0x3A], .ldMIxdN 0x68 0x3A), ([0xDD, 0x67, 0x00, 0x00], .ldRIxh .xh .a),
      ([0xDD, 0x7E, 0x66, 0x00], .ldRMIxd .a 0x66), ([0xDD, 0x71, 0x65, 0x00], .ldMIxdR 0x65 .c),
      ([0xDD, 0xE1, 0x00, 0x00], .popIx)] = true := by decide

theorem test_decode_dd_1 : allDecode
    [([0xDD, 0xE3, 0x00, 0x00], .exMSpIx), ([0xDD, 0xE5, 0x00, 0x00], .pushIx), ([0xDD, 0xE9, 0x00, 0x00], .jpMIx),
      ([0xDD, 0xF9, 0x00, 0x00], .ldSpIx), ([0xDD, 0x86, 0x5F, 0x00], .addAMIxd 0x5F),
      ([0xDD, 0x8E, 0x5E, 0x00], .adcAMIxd 0x5E), ([0xDD, 0x96, 0x5D, 0x00], .subMIxd 0x5D),
      ([0xDD, 0x9E, 0x5C, 0x00], .sbcAMIxd 0x5C), ([0xDD, 0xA6, 0x5B, 0x00], .andMIxd 0x5B),
      ([0xDD, 0xAE, 0x5A, 0x00], .xorMIxd 0x5A), ([0xDD, 0xB6, 0x59, 0x00], .orMIxd 0x59),
      ([0xDD, 0xBE, 0x58, 0x00], .cpMIxd 0x58), ([0xDD, 0xED, 0x00, 0x00], .ddRedundant .ed),
      ([0xDD, 0x0E, 0x99, 0x00], .ddEscape (.ldRN .c 0x99)), ([0xDD, 0xCB, 0x55, 0x06], .rlcMIxd 0x55),
      ([0xDD, 0xCB, 0x54, 0x0E], .rrcMIxd 0x54)] = true := by decide

theorem test_decode_dd_2 : allDecode
    [([0xDD, 0xCB, 0x53, 0x16], .rlMIxd 0x53), ([0xDD, 0xCB, 0x52, 0x1E], .rrMIxd 0x52),
      ([0xDD, 0xCB, 0x51, 0x26], .slaMIxd 0x51), ([0xDD, 0xCB, 0x50, 0x2E], .sraMIxd 0x50),
      ([0xDD, 0xCB, 0x4F, 0x36], .sllMIxd 0x4F), ([0xDD, 0xCB, 0x4E, 0x3E], .srlMIxd 0x4E),
      ([0xDD, 0xCB, 0x4D, 0x1B], .rotMIxdR .rr 0x4D .e), ([0xDD, 0xCB, 0x4C, 0x52], .bitBMIxd 2 0x4C 2),
      ([0xDD, 0xCB, 0x4B, 0xAE], .resBMIxd 5 0x4B), ([0xDD, 0xCB, 0x4A, 0xC6], .setBMIxd 0 0x4A),
      ([0xDD, 0xCB, 0x49, 0x99], .resBMIxdR 3 0x49 .c), ([0xDD, 0xCB, 0x48, 0xF0], .setBMIxdR 6 0x48 .b)] = true := by decide

theorem test_decode_fd_0 : allDecode
    [([0xFD, 0x21, 0xE5, 0xDE], .ldIyNn 0xDEE5), ([0xFD, 0x22, 0xE6, 0xE1], .ldMNnIy 0xE1E6),
      ([0xFD, 0x2A, 0xE7, 0xE4], .ldIyMNn 0xE4E7), ([0xFD, 0x39, 0x00, 0x00], .addIyRr .sp),
      ([0xFD, 0x23, 0x00, 0x00], .incIy), ([0xFD, 0x2B, 0x00, 0x00], .decIy), ([0xFD, 0x24, 0x00, 0x00], .incIyh .hi),
      ([0xFD, 0x2D, 0x00, 0x00], .decIyh .lo), ([0xFD, 0x26, 0x63, 0x00], .ldIyhN .hi 0x63),
      ([0xFD, 0x34, 0x3E, 0x00], .incMIyd 0x3E), ([0xFD, 0x35, 0x3D, 0x00], .decMIyd 0x3D),
      ([0xFD, 0x36, 0x3C, 0x66], .ldMIydN 0x3C 0x66), ([0xFD, 0x67, 0x00, 0x00], .ldRIyh .xh .a),
      ([0xFD, 0x4E, 0x3A, 0x00], .ldRMIyd .c 0x3A), ([0xFD, 0x74, 0x39, 0x00], .ldMIydR 0x39 .h),
      ([0xFD, 0xE1, 0x00, 0x00], .popIy)] = true := by decide

theorem test_decode_fd_1 : allDecode
    [([0xFD, 0xE3, 0x00, 0x00], .exMSpIy), ([0xFD, 0xE5, 0x00, 0x00], .pushIy), ([0xFD, 0xE9, 0x00, 0x00], .jpMIy),
      ([0xFD, 0xF9, 0x00, 0x00], .ldSpIy), ([0xFD, 0x86, 0x33, 0x00], .addAMIyd 0x33),
      ([0xFD, 0x8E, 0x32, 0x00], .adcAMIyd 0x32), ([0xFD, 0x96, 0x31, 0x00], .subMIyd 0x31),
      ([0xFD, 0x9E, 0x30, 0x00], .sbcAMIyd 0x30), ([0xFD, 0xA6, 0x2F, 0x00], .andMIyd 0x2F),
      ([0xFD, 0xAE, 0x2E, 0x00], .xorMIyd 0x2E), ([0xFD, 0xB6, 0x2D, 0x00], .orMIyd 0x2D),
      ([0xFD, 0xBE, 0x2C, 0x00], .cpMIyd 0x2C), ([0xFD, 0xDD, 0x00, 0x00], .fdRedundant .dd),
      ([0xFD, 0x43, 0x00, 0x00], .fdEscape (.ldRR .b .e)), ([0xFD, 0xCB, 0x29, 0x06], .rlcMIyd 0x29),
      ([0xFD, 0xCB, 0x28, 0x0E], .rrcMIyd 0x28)] = true := by decide

theorem test_decode_fd_2 : allDecode
    [([0xFD, 0xCB, 0x27, 0x16], .rlMIyd 0x27), ([0xFD, 0xCB, 0x26, 0x1E], .rrMIyd 0x26),
      ([0xFD, 0xCB, 0x25, 0x26], .slaMIyd 0x25), ([0xFD, 0xCB, 0x24, 0x2E], .sraMIyd 0x24),
      ([0xFD, 0xCB, 0x23, 0x36], .sllMIyd 0x23), ([0xFD, 0xCB, 0x22, 0x3E], .srlMIyd 0x22),
      ([0xFD, 0xCB, 0x21, 0x3D], .rotMIydR .srl 0x21 .l), ([0xFD, 0xCB, 0x20, 0x77], .bitBMIyd 6 0x20 7),
      ([0xFD, 0xCB, 0x1F, 0x8E], .resBMIyd 1 0x1F), ([0xFD, 0xCB, 0x1E, 0xE6], .setBMIyd 4 0x1E),
      ([0xFD, 0xCB, 0x1D, 0xBC], .resBMIydR 7 0x1D .h), ([0xFD, 0xCB, 0x1C, 0xD3], .setBMIydR 2 0x1C .e)] = true := by decide

theorem test_decode_half_0 : allDecode
    [([0xDD, 0x84, 0x00, 0x00], .addAXh .ix .hi), ([0xFD, 0x8C, 0x00, 0x00], .adcAXh .iy .hi),
      ([0xDD, 0x95, 0x00, 0x00], .subXh .ix .lo), ([0xFD, 0x9D, 0x00, 0x00], .sbcAXh .iy .lo),
      ([0xDD, 0xA4, 0x00, 0x00], .andXh .ix .hi), ([0xFD, 0xAC, 0x00, 0x00], .xorXh .iy .hi),
      ([0xDD, 0xB5, 0x00, 0x00], .orXh .ix .lo), ([0xFD, 0xBD, 0x00, 0x00], .cpXh .iy .lo)] = true := by decide

/-! ## The cost table -/

/-- The rows of the instructions, from a first row on, have these costs: `tstates` and `tstates_taken`. -/
def costsFrom : Nat → List Instr → List (Nat × Nat) → Bool
  | _, [], [] => true
  | n, i :: is, c :: cs => i.row == n && i.tstates == c.1 && i.tstatesTaken == c.2 && costsFrom (n + 1) is cs
  | _, _, _ => false

theorem test_costs_0 : costsFrom 0
    [.nop, .exAfAf, .djnz 0x92, .jr 0x93, .jrCc .nz 0x94, .ldRrNn .de 0xD136, .addHlRr .hl, .ldMBcA, .ldMDeA,
      .ldMNnHl 0xDD3A, .ldMNnA 0xE03B, .ldAMBc, .ldAMDe, .ldHlMNn 0xE93E, .ldAMNn 0xEC3F, .incRr .sp, .decRr .bc,
      .incR .h, .incMHl, .decR .l, .decMHl, .ldRN .e 0xBC, .ldMHlN 0xBD, .rlca]
    [(4, 4), (4, 4), (8, 13), (12, 12), (7, 12), (10, 10), (11, 11), (7, 7), (7, 7), (16, 16), (13, 13), (7, 7),
      (7, 7), (16, 16), (13, 13), (6, 6), (6, 6), (4, 4), (11, 11), (4, 4), (11, 11), (7, 7), (10, 10), (4, 4)] = true := by decide

theorem test_costs_1 : costsFrom 24
    [.rrca, .rla, .rra, .daa, .cpl, .scf, .ccf, .ldRR .h .c, .ldRMHl .c, .ldMHlR .h, .halt, .addAR .d, .addAMHl,
      .addAN 0xCC, .adcAR .c, .adcAMHl, .adcAN 0xCF, .subR .e, .subMHl, .subN 0xD2, .sbcAR .a, .sbcAMHl,
      .sbcAN 0xD5, .andR .h]
    [(4, 4), (4, 4), (4, 4), (4, 4), (4, 4), (4, 4), (4, 4), (4, 4), (7, 7), (7, 7), (4, 4), (4, 4), (7, 7),
      (7, 7), (4, 4), (7, 7), (7, 7), (4, 4), (7, 7), (7, 7), (4, 4), (7, 7), (7, 7), (4, 4)] = true := by decide

theorem test_costs_2 : costsFrom 48
    [.andMHl, .andN 0xD8, .xorR .l, .xorMHl, .xorN 0xDB, .orR .b, .orMHl, .orN 0xDE, .cpR .d, .cpMHl, .cpN 0xE1,
      .retCc .z, .popQq .bc, .ret, .exx, .jpMHl, .ldSpHl, .jpCcNn .m 0x8572, .jpNn 0x8873, .outMNA 0xEA,
      .inAMN 0xEB, .exMSpHl, .exDeHl, .di]
    [(7, 7), (7, 7), (4, 4), (7, 7), (7, 7), (4, 4), (7, 7), (7, 7), (4, 4), (7, 7), (7, 7), (5, 11), (10, 10),
      (10, 10), (4, 4), (4, 4), (6, 6), (10, 10), (10, 10), (11, 11), (11, 11), (19, 19), (4, 4), (4, 4)] = true := by decide

theorem test_costs_3 : costsFrom 72
    [.ei, .callCcNn .m 0x9D7A, .pushQq .hl, .callNn 0xA37C, .rstP 5, .rlcR .d, .rlcMHl, .rrcR .a, .rrcMHl,
      .rlR .b, .rlMHl, .rrR .e, .rrMHl, .slaR .l, .slaMHl, .sraR .c, .sraMHl, .sllR .h, .sllMHl, .srlR .d, .srlMHl,
      .bitBR 4 .a, .bitBMHl 7, .resBR 2 .b]
    [(4, 4), (10, 17), (11, 11), (17, 17), (11, 11), (8, 8), (15, 15), (8, 8), (15, 15), (8, 8), (15, 15), (8, 8),
      (15, 15), (8, 8), (15, 15), (8, 8), (15, 15), (8, 8), (15, 15), (8, 8), (15, 15), (8, 8), (12, 12), (8, 8)] = true := by decide

theorem test_costs_4 : costsFrom 96
    [.resBMHl 5, .setBR 0 .e, .setBMHl 3, .inRMC .b, .inFMC, .outMCR .h, .outMC0, .sbcHlRr .sp, .adcHlRr .bc,
      .ldMNnRr .de 0xFD9A, .ldRrMNn .hl 0x009B, .neg 7, .reti, .retn 6, .im0 5, .im1 6, .im2 3, .ldIA, .ldRA,
      .ldAI, .ldAR, .rrd, .rld, .ldi]
    [(15, 15), (8, 8), (15, 15), (12, 12), (12, 12), (12, 12), (12, 12), (15, 15), (15, 15), (20, 20), (20, 20),
      (8, 8), (14, 14), (14, 14), (8, 8), (8, 8), (8, 8), (9, 9), (9, 9), (9, 9), (9, 9), (18, 18), (18, 18),
      (16, 16)] = true := by decide

theorem test_costs_5 : costsFrom 120
    [.cpi, .ini, .outi, .ldd, .cpd, .ind, .outd, .ldir, .cpir, .inir, .otir, .lddr, .cpdr, .indr, .otdr,
      .nopStar 0xA5, .ldIxNn 0x5AB9, .ldMNnIx 0x5DBA, .ldIxMNn 0x60BB, .addIxRr .sp, .incIx, .decIx, .incIxh .hi,
      .decIxh .lo]
    [(16, 16), (16, 16), (16, 16), (16, 16), (16, 16), (16, 16), (16, 16), (16, 21), (16, 21), (16, 21), (16, 21),
      (16, 21), (16, 21), (16, 21), (16, 21), (8, 8), (14, 14), (20, 20), (20, 20), (15, 15), (10, 10), (10, 10),
      (8, 8), (8, 8)] = true := by decide

theorem test_costs_6 : costsFrom 144
    [.ldIxhN .hi 0x37, .incMIxd 0x6A, .decMIxd 0x69, .ldMIxdN 0x68 0x3A, .ldRIxh .xh .a, .ldRMIxd .a 0x66,
      .ldMIxdR 0x65 .c, .popIx, .exMSpIx, .pushIx, .jpMIx, .ldSpIx, .addAMIxd 0x5F, .adcAMIxd 0x5E, .subMIxd 0x5D,
      .sbcAMIxd 0x5C, .andMIxd 0x5B, .xorMIxd 0x5A, .orMIxd 0x59, .cpMIxd 0x58, .ddRedundant .ed,
      .ddEscape (.ldRN .c 0x99), .rlcMIxd 0x55, .rrcMIxd 0x54]
    [(11, 11), (23, 23), (23, 23), (19, 19), (8, 8), (19, 19), (19, 19), (14, 14), (23, 23), (15, 15), (8, 8),
      (10, 10), (19, 19), (19, 19), (19, 19), (19, 19), (19, 19), (19, 19), (19, 19), (19, 19), (4, 4), (4, 4),
      (23, 23), (23, 23)] = true := by decide

theorem test_costs_7 : costsFrom 168
    [.rlMIxd 0x53, .rrMIxd 0x52, .slaMIxd 0x51, .sraMIxd 0x50, .sllMIxd 0x4F, .srlMIxd 0x4E,
      .rotMIxdR .rr 0x4D .e, .bitBMIxd 2 0x4C 2, .resBMIxd 5 0x4B, .setBMIxd 0 0x4A, .resBMIxdR 3 0x49 .c,
      .setBMIxdR 6 0x48 .b, .ldIyNn 0xDEE5, .ldMNnIy 0xE1E6, .ldIyMNn 0xE4E7, .addIyRr .sp, .incIy, .decIy,
      .incIyh .hi, .decIyh .lo, .ldIyhN .hi 0x63, .incMIyd 0x3E, .decMIyd 0x3D, .ldMIydN 0x3C 0x66]
    [(23, 23), (23, 23), (23, 23), (23, 23), (23, 23), (23, 23), (23, 23), (20, 20), (23, 23), (23, 23), (23, 23),
      (23, 23), (14, 14), (20, 20), (20, 20), (15, 15), (10, 10), (10, 10), (8, 8), (8, 8), (11, 11), (23, 23),
      (23, 23), (19, 19)] = true := by decide

theorem test_costs_8 : costsFrom 192
    [.ldRIyh .xh .a, .ldRMIyd .c 0x3A, .ldMIydR 0x39 .h, .popIy, .exMSpIy, .pushIy, .jpMIy, .ldSpIy,
      .addAMIyd 0x33, .adcAMIyd 0x32, .subMIyd 0x31, .sbcAMIyd 0x30, .andMIyd 0x2F, .xorMIyd 0x2E, .orMIyd 0x2D,
      .cpMIyd 0x2C, .fdRedundant .dd, .fdEscape (.ldRR .b .e), .rlcMIyd 0x29, .rrcMIyd 0x28, .rlMIyd 0x27,
      .rrMIyd 0x26, .slaMIyd 0x25, .sraMIyd 0x24]
    [(8, 8), (19, 19), (19, 19), (14, 14), (23, 23), (15, 15), (8, 8), (10, 10), (19, 19), (19, 19), (19, 19),
      (19, 19), (19, 19), (19, 19), (19, 19), (19, 19), (4, 4), (4, 4), (23, 23), (23, 23), (23, 23), (23, 23),
      (23, 23), (23, 23)] = true := by decide

theorem test_costs_9 : costsFrom 216
    [.sllMIyd 0x23, .srlMIyd 0x22, .rotMIydR .srl 0x21 .l, .bitBMIyd 6 0x20 7, .resBMIyd 1 0x1F, .setBMIyd 4 0x1E,
      .resBMIydR 7 0x1D .h, .setBMIydR 2 0x1C .e, .addAXh .ix .hi, .adcAXh .iy .hi, .subXh .ix .lo,
      .sbcAXh .iy .lo, .andXh .ix .hi, .xorXh .iy .hi, .orXh .ix .lo, .cpXh .iy .lo]
    [(23, 23), (23, 23), (23, 23), (20, 20), (23, 23), (23, 23), (23, 23), (23, 23), (8, 8), (8, 8), (8, 8),
      (8, 8), (8, 8), (8, 8), (8, 8), (8, 8)] = true := by decide

/-! ## Single steps (spec/95_test_vectors.md) -/

/-- The core the vectors start from: reset, with A = F = 0 and PC = 0x8000. -/
def cpu0 : Cpu := { Cpu.reset with a := 0, f := 0, pc := 0x8000 }

/-- The reset machine with a core, and bytes stored at addresses. -/
def holding (cpu : Cpu) (cells : List (Word × Byte)) : State :=
  let s : State := { State.reset with cpu := cpu }
  { s with mem := cells.foldl (fun m c => Memory.write m (s.readLoc c.1) c.2) [] }

/-- The bytes of a program from an address on. -/
def codeAt : Word → List Byte → List (Word × Byte)
  | _, [] => []
  | a, v :: vs => (a, v) :: codeAt (a + 1) vs

/-- One step of `bytes` at PC, with `cells` in memory, leaves the core `after` and the bytes `stored`. -/
def runsTo (bytes : List Byte) (cpu : Cpu) (cells : List (Word × Byte)) (after : Cpu) (stored : List (Word × Byte)) : Bool :=
  match step (holding cpu (codeAt cpu.pc bytes ++ cells)) with
  | .next t => decide (t.cpu = after) && stored.all fun c => t.readByte c.1 == c.2
  | .fault _ => false
  | .refused _ => false

/-- V1.3, `LD E,(HL)`. -/
theorem test_v1_3 :
    runsTo [0x5E] { cpu0 with h := 0x90, l := 0x00 } [(0x9000, 0xC3)]
      { cpu0 with h := 0x90, l := 0x00, e := 0xC3, pc := 0x8001, rlo := 1, clk := 7 } [] = true := by decide

/-- V1.5, `LD (HL),n to ROM`. -/
theorem test_v1_5 :
    runsTo [0x36, 0x55] { cpu0 with h := 0x10, l := 0x00 } []
      { cpu0 with h := 0x10, l := 0x00, pc := 0x8002, rlo := 1, clk := 10 } [] = true := by decide

/-- V1.6, `LD A,(IX-1)`. -/
theorem test_v1_6 :
    runsTo [0xDD, 0x7E, 0xFF] { cpu0 with ix := 0x9000 } [(0x8FFF, 0x42)]
      { cpu0 with ix := 0x9000, a := 0x42, pc := 0x8003, rlo := 1, memptr := 0x8FFF, clk := 19 } [] = true := by decide

/-- V1.10, `LD (DE),A`. -/
theorem test_v1_10 :
    runsTo [0x12] { cpu0 with a := 0x81, d := 0x90, e := 0xFF } []
      { cpu0 with a := 0x81, d := 0x90, e := 0xFF, pc := 0x8001, rlo := 1, memptr := 0x8100, clk := 7 }
      [(0x90FF, 0x81)] = true := by decide

/-- V1.13, `LD A,I`. -/
theorem test_v1_13 :
    runsTo [0xED, 0x57] { cpu0 with i := 0x3F, iff2 := true, memptr := 0x2800, f := 0x01 } []
      { cpu0 with i := 0x3F, iff2 := true, memptr := 0x2800, f := 0x2D, a := 0x3F, pc := 0x8002, rlo := 1, clk := 9 }
      [] = true := by decide

/-- V1.16, `LD A,R (Rlo wrap)`. -/
theorem test_v1_16 :
    runsTo [0xED, 0x5F] { cpu0 with rhi := true, rlo := 127 } []
      { cpu0 with rhi := true, rlo := 0, a := 0xFF, f := 0x80, pc := 0x8002, clk := 9 } [] = true := by decide

/-- V1.18, `LD R,A`. -/
theorem test_v1_18 :
    runsTo [0xED, 0x4F] { cpu0 with a := 0x7F } [] { cpu0 with a := 0x7F, pc := 0x8002, clk := 9 } [] = true := by decide

/-- V1.19, `LD IXH,B`. -/
theorem test_v1_19 :
    runsTo [0xDD, 0x60] { cpu0 with b := 0xAB, ix := 0x1234 } []
      { cpu0 with b := 0xAB, ix := 0xAB34, pc := 0x8002, rlo := 1, clk := 8 } [] = true := by decide

/-- V2.5, `LD HL,(0xFFFF)`. -/
theorem test_v2_5 :
    runsTo [0x2A, 0xFF, 0xFF] cpu0 [(0xFFFF, 0x11)] { cpu0 with l := 0x11, pc := 0x8003, rlo := 1, clk := 16 } [] = true := by decide

/-- V2.7, `LD DE,(nn) (ED)`. -/
theorem test_v2_7 :
    runsTo [0xED, 0x5B, 0x10, 0x90] cpu0 [(0x9010, 0x01), (0x9011, 0x02)]
      { cpu0 with d := 0x02, e := 0x01, pc := 0x8004, rlo := 1, memptr := 0x9011, clk := 20 } [] = true := by decide

/-- V2.8, `LD (nn),SP (ED)`. -/
theorem test_v2_8 :
    runsTo [0xED, 0x73, 0x10, 0x90] { cpu0 with sp := 0x1234 } []
      { cpu0 with sp := 0x1234, pc := 0x8004, rlo := 1, memptr := 0x9011, clk := 20 }
      [(0x9010, 0x34), (0x9011, 0x12)] = true := by decide

/-- V2.15, `PUSH HL at SP=0x0001`. -/
theorem test_v2_15 :
    runsTo [0xE5] { cpu0 with h := 0xAB, l := 0xCD, sp := 0x0001 } []
      { cpu0 with h := 0xAB, l := 0xCD, sp := 0xFFFF, pc := 0x8001, rlo := 1, clk := 11 } [(0xFFFF, 0xCD)] = true := by decide

/-- V2.17, `POP AF`. -/
theorem test_v2_17 :
    runsTo [0xF1] { cpu0 with sp := 0xC000 } [(0xC000, 0xFF), (0xC001, 0x00)]
      { cpu0 with sp := 0xC002, f := 0xFF, pc := 0x8001, rlo := 1, clk := 10 } [] = true := by decide

/-- V2.19, `PUSH IX`. -/
theorem test_v2_19 :
    runsTo [0xDD, 0xE5] { cpu0 with ix := 0x1357, sp := 0xC000 } []
      { cpu0 with ix := 0x1357, sp := 0xBFFE, pc := 0x8002, rlo := 1, clk := 15 } [(0xBFFE, 0x57), (0xBFFF, 0x13)] = true := by decide

/-- V3.1, `EX DE,HL`. -/
theorem test_v3_1 :
    runsTo [0xEB] { cpu0 with d := 0x11, e := 0x11, h := 0x22, l := 0x22 } []
      { cpu0 with d := 0x22, e := 0x22, h := 0x11, l := 0x11, pc := 0x8001, rlo := 1, clk := 4 } [] = true := by decide

/-- V3.2, `EX AF,AF'`. -/
theorem test_v3_2 :
    runsTo [0x08] { cpu0 with a := 0x01, f := 0x02, a' := 0x03, f' := 0x04 } []
      { cpu0 with a := 0x03, f := 0x04, a' := 0x01, f' := 0x02, pc := 0x8001, rlo := 1, clk := 4 } [] = true := by decide

/-- V3.3, `EXX`. -/
theorem test_v3_3 :
    runsTo [0xD9] { cpu0 with b := 0x01, c := 0x02, d := 0x03, e := 0x04, h := 0x05, l := 0x06, b' := 0x0A } []
      { cpu0 with b := 0x0A, c := 0x00, d := 0x00, e := 0x00, h := 0x00, l := 0x00, b' := 0x01, pc := 0x8001, rlo := 1, clk := 4, c' := 0x02, d' := 0x03, e' := 0x04, h' := 0x05, l' := 0x06 }
      [] = true := by decide

/-- V3.4, `EX (SP),HL`. -/
theorem test_v3_4 :
    runsTo [0xE3] { cpu0 with h := 0x12, l := 0x34, sp := 0xC000 } [(0xC000, 0x78), (0xC001, 0x56)]
      { cpu0 with h := 0x56, l := 0x78, sp := 0xC000, pc := 0x8001, rlo := 1, memptr := 0x5678, clk := 19 }
      [(0xC000, 0x34), (0xC001, 0x12)] = true := by decide

/-- V3.6, `LDI`. -/
theorem test_v3_6 :
    runsTo [0xED, 0xA0] { cpu0 with a := 0x00, h := 0x90, l := 0x00, d := 0xA0, e := 0x00, b := 0x00, c := 0x02 }
      [(0x9000, 0x0A)]
      { cpu0 with a := 0x00, h := 0x90, l := 0x01, d := 0xA0, e := 0x01, b := 0x00, c := 0x01, f := 0x2C, pc := 0x8002, rlo := 1, clk := 16 }
      [(0xA000, 0x0A)] = true := by decide

/-- V3.8, `LDD`. -/
theorem test_v3_8 :
    runsTo [0xED, 0xA8] { cpu0 with h := 0x90, l := 0x00, d := 0xA0, e := 0x00, b := 0x00, c := 0x10 }
      [(0x9000, 0x33)]
      { cpu0 with h := 0x8F, l := 0xFF, d := 0x9F, e := 0xFF, b := 0x00, c := 0x0F, f := 0x24, pc := 0x8002, rlo := 1, clk := 16 }
      [(0xA000, 0x33)] = true := by decide

/-- V3.9, `LDIR, one iteration`. -/
theorem test_v3_9 :
    runsTo [0xED, 0xB0] { cpu0 with h := 0x90, l := 0x00, d := 0xA0, e := 0x00, b := 0x00, c := 0x03 }
      [(0x9000, 0x01), (0x9001, 0x02), (0x9002, 0x03)]
      { cpu0 with h := 0x90, l := 0x01, d := 0xA0, e := 0x01, b := 0x00, c := 0x02, f := 0x04, rlo := 1, memptr := 0x8001, clk := 21 }
      [(0xA000, 0x01)] = true := by decide

/-- V3.11, `LDIR with BC = 0`. -/
theorem test_v3_11 :
    runsTo [0xED, 0xB0] { cpu0 with h := 0x90, l := 0x00, d := 0xA0, e := 0x00, b := 0x00, c := 0x00 }
      [(0x9000, 0x07)]
      { cpu0 with h := 0x90, l := 0x01, d := 0xA0, e := 0x01, b := 0xFF, c := 0xFF, f := 0x24, rlo := 1, memptr := 0x8001, clk := 21 }
      [(0xA000, 0x07)] = true := by decide

/-- V3.13, `CPI, match`. -/
theorem test_v3_13 :
    runsTo [0xED, 0xA1] { cpu0 with a := 0x20, h := 0x90, l := 0x00, b := 0x00, c := 0x05 } [(0x9000, 0x20)]
      { cpu0 with a := 0x20, h := 0x90, l := 0x01, b := 0x00, c := 0x04, f := 0x46, pc := 0x8002, rlo := 1, memptr := 0x0001, clk := 16 }
      [] = true := by decide

/-- V3.15, `CPD`. -/
theorem test_v3_15 :
    runsTo [0xED, 0xA9] { cpu0 with a := 0x01, h := 0x90, l := 0x00, b := 0x00, c := 0x01, memptr := 0x1000 }
      [(0x9000, 0x01)]
      { cpu0 with a := 0x01, h := 0x8F, l := 0xFF, b := 0x00, c := 0x00, memptr := 0x0FFF, f := 0x42, pc := 0x8002, rlo := 1, clk := 16 }
      [] = true := by decide

/-- V3.17, `LDDR, one step`. -/
theorem test_v3_17 :
    runsTo [0xED, 0xB8] { cpu0 with h := 0x90, l := 0x01, d := 0xA0, e := 0x01, b := 0x00, c := 0x02 }
      [(0x9000, 0x05), (0x9001, 0x06)]
      { cpu0 with h := 0x90, l := 0x00, d := 0xA0, e := 0x00, b := 0x00, c := 0x01, f := 0x24, rlo := 1, memptr := 0x8001, clk := 21 }
      [(0xA001, 0x06)] = true := by decide

/-- V4.2, `ADD A,B (carry out)`. -/
theorem test_v4_2 :
    runsTo [0x80] { cpu0 with a := 0xFF, b := 0x01 } []
      { cpu0 with a := 0x00, b := 0x01, f := 0x51, pc := 0x8001, rlo := 1, clk := 4 } [] = true := by decide

/-- V4.5, `ADC A,n`. -/
theorem test_v4_5 :
    runsTo [0xCE, 0x0F] { cpu0 with a := 0x00, f := 0x01 } []
      { cpu0 with a := 0x10, f := 0x10, pc := 0x8002, rlo := 1, clk := 7 } [] = true := by decide

/-- V4.7, `SUB A`. -/
theorem test_v4_7 :
    runsTo [0x97] { cpu0 with a := 0x5A } [] { cpu0 with a := 0x00, f := 0x42, pc := 0x8001, rlo := 1, clk := 4 } [] = true := by decide

/-- V4.9, `SBC A,(IX+2)`. -/
theorem test_v4_9 :
    runsTo [0xDD, 0x9E, 0x02] { cpu0 with a := 0x10, ix := 0x9000, f := 0x01 } [(0x9002, 0x0F)]
      { cpu0 with a := 0x00, ix := 0x9000, f := 0x52, pc := 0x8003, rlo := 1, memptr := 0x9002, clk := 19 } [] = true := by decide

/-- V4.10, `AND n`. -/
theorem test_v4_10 :
    runsTo [0xE6, 0x3C] { cpu0 with a := 0xF0 } []
      { cpu0 with a := 0x30, f := 0x34, pc := 0x8002, rlo := 1, clk := 7 } [] = true := by decide

/-- V4.11, `XOR A`. -/
theorem test_v4_11 :
    runsTo [0xAF] { cpu0 with a := 0x5A } [] { cpu0 with a := 0x00, f := 0x44, pc := 0x8001, rlo := 1, clk := 4 } [] = true := by decide

/-- V4.14, `CP n (equal)`. -/
theorem test_v4_14 :
    runsTo [0xFE, 0x10] { cpu0 with a := 0x10 } []
      { cpu0 with a := 0x10, f := 0x42, pc := 0x8002, rlo := 1, clk := 7 } [] = true := by decide

/-- V4.16, `INC A (0xFF)`. -/
theorem test_v4_16 :
    runsTo [0x3C] { cpu0 with a := 0xFF } [] { cpu0 with a := 0x00, f := 0x50, pc := 0x8001, rlo := 1, clk := 4 } [] = true := by decide

/-- V4.18, `DEC B (0x80)`. -/
theorem test_v4_18 :
    runsTo [0x05] { cpu0 with b := 0x80 } [] { cpu0 with b := 0x7F, f := 0x3E, pc := 0x8001, rlo := 1, clk := 4 } [] = true := by decide

/-- V4.19, `DEC (HL)`. -/
theorem test_v4_19 :
    runsTo [0x35] { cpu0 with h := 0x90, l := 0x00 } [(0x9000, 0x00)]
      { cpu0 with h := 0x90, l := 0x00, f := 0xBA, pc := 0x8001, rlo := 1, clk := 11 } [(0x9000, 0xFF)] = true := by decide

/-- V4.20, `INC (IX+1)`. -/
theorem test_v4_20 :
    runsTo [0xDD, 0x34, 0x01] { cpu0 with ix := 0x9000 } [(0x9001, 0xFF)]
      { cpu0 with ix := 0x9000, f := 0x50, pc := 0x8003, rlo := 1, memptr := 0x9001, clk := 23 } [(0x9001, 0x00)] = true := by decide

/-- V4.22, `DEC IYH`. -/
theorem test_v4_22 :
    runsTo [0xFD, 0x25] { cpu0 with iy := 0x0100 } []
      { cpu0 with iy := 0x0000, f := 0x42, pc := 0x8002, rlo := 1, clk := 8 } [] = true := by decide

/-- V4.23, `ADD A,IXH`. -/
theorem test_v4_23 :
    runsTo [0xDD, 0x84] { cpu0 with a := 0x01, ix := 0x0F00 } []
      { cpu0 with a := 0x10, ix := 0x0F00, f := 0x10, pc := 0x8002, rlo := 1, clk := 8 } [] = true := by decide

/-- V4.24, `CP (IY-2)`. -/
theorem test_v4_24 :
    runsTo [0xFD, 0xBE, 0xFE] { cpu0 with a := 0x05, iy := 0x9002 } [(0x9000, 0x06)]
      { cpu0 with a := 0x05, iy := 0x9002, f := 0x93, pc := 0x8003, rlo := 1, memptr := 0x9000, clk := 19 } [] = true := by decide

/-- V5.1, `DAA after 0x15 + 0x27`. -/
theorem test_v5_1 :
    runsTo [0x27] { cpu0 with a := 0x3C, f := 0x28 } []
      { cpu0 with a := 0x42, f := 0x14, pc := 0x8001, rlo := 1, clk := 4 } [] = true := by decide

/-- V5.2, `DAA after 0x42 - 0x15`. -/
theorem test_v5_2 :
    runsTo [0x27] { cpu0 with a := 0x2D, f := 0x3A } []
      { cpu0 with a := 0x27, f := 0x26, pc := 0x8001, rlo := 1, clk := 4 } [] = true := by decide

/-- V5.6, `CPL`. -/
theorem test_v5_6 :
    runsTo [0x2F] { cpu0 with a := 0x5A } [] { cpu0 with a := 0xA5, f := 0x32, pc := 0x8001, rlo := 1, clk := 4 } [] = true := by decide

/-- V5.8, `NEG of 0x80`. -/
theorem test_v5_8 :
    runsTo [0xED, 0x44] { cpu0 with a := 0x80 } []
      { cpu0 with a := 0x80, f := 0x87, pc := 0x8002, rlo := 1, clk := 8 } [] = true := by decide

/-- V5.11, `CCF`. -/
theorem test_v5_11 :
    runsTo [0x3F] { cpu0 with a := 0x00, f := 0x01 } []
      { cpu0 with a := 0x00, f := 0x10, pc := 0x8001, rlo := 1, clk := 4 } [] = true := by decide

/-- V5.12, `SCF`. -/
theorem test_v5_12 :
    runsTo [0x37] { cpu0 with a := 0x28 } [] { cpu0 with a := 0x28, f := 0x29, pc := 0x8001, rlo := 1, clk := 4 } [] = true := by decide

/-- V5.15, `DI`. -/
theorem test_v5_15 :
    runsTo [0xF3] { cpu0 with iff1 := true, iff2 := true } []
      { cpu0 with iff1 := false, iff2 := false, pc := 0x8001, rlo := 1, clk := 4 } [] = true := by decide

/-- V5.16, `EI`. -/
theorem test_v5_16 :
    runsTo [0xFB] cpu0 []
      { cpu0 with pc := 0x8001, rlo := 1, iff1 := true, iff2 := true, intBlock := true, clk := 4 } [] = true := by decide

/-- V5.17, `IM 2`. -/
theorem test_v5_17 :
    runsTo [0xED, 0x5E] cpu0 [] { cpu0 with pc := 0x8002, rlo := 1, im := .im2, clk := 8 } [] = true := by decide

/-- V5.20, `ED no-op ED 00`. -/
theorem test_v5_20 :
    runsTo [0xED, 0x00] cpu0 [] { cpu0 with pc := 0x8002, rlo := 1, clk := 8 } [] = true := by decide

/-- V5.22, `redundant prefix DD FD`. -/
theorem test_v5_22 :
    runsTo [0xDD, 0xFD, 0x21, 0x34, 0x12] cpu0 [] { cpu0 with pc := 0x8001, rlo := 1, intBlock := true, clk := 4 }
      [] = true := by decide

/-- V5.25, `escape DD 47`. -/
theorem test_v5_25 :
    runsTo [0xDD, 0x47] { cpu0 with a := 0x11 } []
      { cpu0 with a := 0x11, b := 0x11, pc := 0x8002, rlo := 1, clk := 8 } [] = true := by decide

/-- V6.2, `ADD HL,HL`. -/
theorem test_v6_2 :
    runsTo [0x29] { cpu0 with h := 0x80, l := 0x00, f := 0xC4 } []
      { cpu0 with h := 0x00, l := 0x00, f := 0xC5, pc := 0x8001, rlo := 1, memptr := 0x8001, clk := 11 } [] = true := by decide

/-- V6.3, `ADC HL,BC`. -/
theorem test_v6_3 :
    runsTo [0xED, 0x4A] { cpu0 with h := 0x7F, l := 0xFF, b := 0x00, c := 0x00, f := 0x01 } []
      { cpu0 with h := 0x80, l := 0x00, b := 0x00, c := 0x00, f := 0x94, pc := 0x8002, rlo := 1, memptr := 0x8000, clk := 15 }
      [] = true := by decide

/-- V6.5, `SBC HL,DE`. -/
theorem test_v6_5 :
    runsTo [0xED, 0x52] { cpu0 with h := 0x00, l := 0x00, d := 0x00, e := 0x01 } []
      { cpu0 with h := 0xFF, l := 0xFF, d := 0x00, e := 0x01, f := 0xBB, pc := 0x8002, rlo := 1, memptr := 0x0001, clk := 15 }
      [] = true := by decide

/-- V6.8, `ADD IY,SP`. -/
theorem test_v6_8 :
    runsTo [0xFD, 0x39] { cpu0 with iy := 0x1000, sp := 0x1000 } []
      { cpu0 with iy := 0x2000, sp := 0x1000, f := 0x20, pc := 0x8002, rlo := 1, memptr := 0x1001, clk := 15 } [] = true := by decide

/-- V6.10, `DEC SP`. -/
theorem test_v6_10 :
    runsTo [0x3B] { cpu0 with sp := 0x0000 } [] { cpu0 with sp := 0xFFFF, pc := 0x8001, rlo := 1, clk := 6 } [] = true := by decide

/-- V7.2, `RRCA`. -/
theorem test_v7_2 :
    runsTo [0x0F] { cpu0 with a := 0x01 } [] { cpu0 with a := 0x80, f := 0x01, pc := 0x8001, rlo := 1, clk := 4 } [] = true := by decide

/-- V7.5, `RLCA keeps S Z PV`. -/
theorem test_v7_5 :
    runsTo [0x07] { cpu0 with a := 0x00, f := 0xC4 } []
      { cpu0 with a := 0x00, f := 0xC4, pc := 0x8001, rlo := 1, clk := 4 } [] = true := by decide

/-- V7.7, `RRC (HL)`. -/
theorem test_v7_7 :
    runsTo [0xCB, 0x0E] { cpu0 with h := 0x90, l := 0x00 } [(0x9000, 0x01)]
      { cpu0 with h := 0x90, l := 0x00, f := 0x81, pc := 0x8002, rlo := 1, clk := 15 } [(0x9000, 0x80)] = true := by decide

/-- V7.12, `SLL L`. -/
theorem test_v7_12 :
    runsTo [0xCB, 0x35] { cpu0 with l := 0x80 } []
      { cpu0 with l := 0x01, f := 0x01, pc := 0x8002, rlo := 1, clk := 8 } [] = true := by decide

/-- V7.15, `SRL (IY-1),B`. -/
theorem test_v7_15 :
    runsTo [0xFD, 0xCB, 0xFF, 0x38] { cpu0 with iy := 0x9001 } [(0x9000, 0x81)]
      { cpu0 with iy := 0x9001, f := 0x01, b := 0x40, pc := 0x8004, rlo := 1, memptr := 0x9000, clk := 23 }
      [(0x9000, 0x40)] = true := by decide

/-- V7.16, `RLD`. -/
theorem test_v7_16 :
    runsTo [0xED, 0x6F] { cpu0 with a := 0x12, h := 0x90, l := 0x00 } [(0x9000, 0x34)]
      { cpu0 with a := 0x13, h := 0x90, l := 0x00, pc := 0x8002, rlo := 1, memptr := 0x9001, clk := 18 }
      [(0x9000, 0x42)] = true := by decide

/-- V7.17, `RRD`. -/
theorem test_v7_17 :
    runsTo [0xED, 0x67] { cpu0 with a := 0x12, h := 0x90, l := 0x00 } [(0x9000, 0x34)]
      { cpu0 with a := 0x14, h := 0x90, l := 0x00, f := 0x04, pc := 0x8002, rlo := 1, memptr := 0x9001, clk := 18 }
      [(0x9000, 0x23)] = true := by decide

/-- V8.3, `BIT 3,B (X from B)`. -/
theorem test_v8_3 :
    runsTo [0xCB, 0x58] { cpu0 with b := 0x28 } []
      { cpu0 with b := 0x28, f := 0x38, pc := 0x8002, rlo := 1, clk := 8 } [] = true := by decide

/-- V8.4, `BIT 3,(HL)`. -/
theorem test_v8_4 :
    runsTo [0xCB, 0x5E] { cpu0 with h := 0x90, l := 0x00, memptr := 0x2800 } [(0x9000, 0x08)]
      { cpu0 with h := 0x90, l := 0x00, memptr := 0x2800, f := 0x38, pc := 0x8002, rlo := 1, clk := 12 } [] = true := by decide

/-- V8.5, `BIT 1,(IX+3)`. -/
theorem test_v8_5 :
    runsTo [0xDD, 0xCB, 0x03, 0x4E] { cpu0 with ix := 0x27FD } []
      { cpu0 with ix := 0x27FD, f := 0x7C, pc := 0x8004, rlo := 1, memptr := 0x2800, clk := 20 } [] = true := by decide

/-- V8.7, `RES 0,(HL)`. -/
theorem test_v8_7 :
    runsTo [0xCB, 0x86] { cpu0 with h := 0x90, l := 0x00 } [(0x9000, 0xFF)]
      { cpu0 with h := 0x90, l := 0x00, pc := 0x8002, rlo := 1, clk := 15 } [(0x9000, 0xFE)] = true := by decide

/-- V8.9, `RES 7,(IX+2),A`. -/
theorem test_v8_9 :
    runsTo [0xDD, 0xCB, 0x02, 0xBF] { cpu0 with ix := 0x9000 } [(0x9002, 0xFF)]
      { cpu0 with ix := 0x9000, a := 0x7F, pc := 0x8004, rlo := 1, memptr := 0x9002, clk := 23 } [(0x9002, 0x7F)] = true := by decide

/-- V9.2, `JP Z,nn (not taken)`. -/
theorem test_v9_2 :
    runsTo [0xCA, 0x00, 0x90] cpu0 [] { cpu0 with pc := 0x8003, rlo := 1, memptr := 0x9000, clk := 10 } [] = true := by decide

/-- V9.3, `JP PE,nn (taken)`. -/
theorem test_v9_3 :
    runsTo [0xEA, 0x00, 0x90] { cpu0 with f := 0x04 } []
      { cpu0 with f := 0x04, pc := 0x9000, rlo := 1, memptr := 0x9000, clk := 10 } [] = true := by decide

/-- V9.5, `JR -2`. -/
theorem test_v9_5 :
    runsTo [0x18, 0xFE] cpu0 [] { cpu0 with rlo := 1, memptr := 0x8000, clk := 12 } [] = true := by decide

/-- V9.7, `JR e across 0xFFFF`. -/
theorem test_v9_7 :
    runsTo [0x18, 0x10] { cpu0 with pc := 0xFFF0 } []
      { cpu0 with pc := 0x0002, rlo := 1, memptr := 0x0002, clk := 12 } [] = true := by decide

/-- V9.10, `DJNZ (taken)`. -/
theorem test_v9_10 :
    runsTo [0x10, 0xFE] { cpu0 with b := 0x02 } [] { cpu0 with b := 0x01, rlo := 1, memptr := 0x8000, clk := 13 } [] = true := by decide

/-- V9.11, `DJNZ (B = 1, falls through)`. -/
theorem test_v9_11 :
    runsTo [0x10, 0xFE] { cpu0 with b := 0x01 } [] { cpu0 with b := 0x00, pc := 0x8002, rlo := 1, clk := 8 } [] = true := by decide

/-- V9.13, `CALL nn`. -/
theorem test_v9_13 :
    runsTo [0xCD, 0x00, 0x90] { cpu0 with sp := 0xC000 } []
      { cpu0 with sp := 0xBFFE, pc := 0x9000, rlo := 1, memptr := 0x9000, clk := 17 }
      [(0xBFFE, 0x03), (0xBFFF, 0x80)] = true := by decide

/-- V9.14, `CALL C,nn (not taken)`. -/
theorem test_v9_14 :
    runsTo [0xDC, 0x00, 0x90] { cpu0 with sp := 0xC000 } []
      { cpu0 with sp := 0xC000, pc := 0x8003, rlo := 1, memptr := 0x9000, clk := 10 } [] = true := by decide

/-- V9.18, `RET PO (taken)`. -/
theorem test_v9_18 :
    runsTo [0xE0] { cpu0 with sp := 0xBFFE } [(0xBFFE, 0x00), (0xBFFF, 0xA0)]
      { cpu0 with sp := 0xC000, pc := 0xA000, rlo := 1, memptr := 0xA000, clk := 11 } [] = true := by decide

/-- V9.20, `RST 0x08`. -/
theorem test_v9_20 :
    runsTo [0xCF] { cpu0 with sp := 0xC000 } []
      { cpu0 with sp := 0xBFFE, pc := 0x0008, rlo := 1, memptr := 0x0008, clk := 11 }
      [(0xBFFE, 0x01), (0xBFFF, 0x80)] = true := by decide

/-- V9.21, `RETI`. -/
theorem test_v9_21 :
    runsTo [0xED, 0x4D] { cpu0 with sp := 0xBFFE, iff1 := false, iff2 := true } [(0xBFFE, 0x00), (0xBFFF, 0x90)]
      { cpu0 with sp := 0xC000, iff1 := true, iff2 := true, pc := 0x9000, rlo := 1, memptr := 0x9000, clk := 14 } [] = true := by decide

/-- V9.23, `RETN alias ED 55`. -/
theorem test_v9_23 :
    runsTo [0xED, 0x55] { cpu0 with sp := 0xBFFE, iff1 := true, iff2 := false } [(0xBFFE, 0x00), (0xBFFF, 0x90)]
      { cpu0 with sp := 0xC000, iff1 := false, iff2 := false, pc := 0x9000, rlo := 1, memptr := 0x9000, clk := 14 }
      [] = true := by decide

/-- V10.4, `OUT (n),A`. -/
theorem test_v10_4 :
    runsTo [0xD3, 0xFE] { cpu0 with a := 0x07 } []
      { cpu0 with a := 0x07, pc := 0x8002, rlo := 1, memptr := 0x07FF, clk := 11 } [] = true := by decide

/-- V10.6, `OUT (C),0`. -/
theorem test_v10_6 :
    runsTo [0xED, 0x71] { cpu0 with b := 0x00, c := 0xFE } []
      { cpu0 with b := 0x00, c := 0xFE, pc := 0x8002, rlo := 1, memptr := 0x00FF, clk := 12 } [] = true := by decide

/-- V10.10, `OUTI`. -/
theorem test_v10_10 :
    runsTo [0xED, 0xA3] { cpu0 with b := 0x01, c := 0x10, h := 0x90, l := 0x00 } [(0x9000, 0xFF)]
      { cpu0 with b := 0x00, c := 0x10, h := 0x90, l := 0x01, f := 0x57, pc := 0x8002, rlo := 1, memptr := 0x0011, clk := 16 }
      [] = true := by decide

/-- V10.13, `OTDR, B = 1`. -/
theorem test_v10_13 :
    runsTo [0xED, 0xBB] { cpu0 with b := 0x01, c := 0x10, h := 0x90, l := 0x00 } [(0x9000, 0x01)]
      { cpu0 with b := 0x00, c := 0x10, h := 0x8F, l := 0xFF, f := 0x55, pc := 0x8002, rlo := 1, memptr := 0x000F, clk := 16 }
      [] = true := by decide

/-- V12.3, `FD CB d op is one step`. -/
theorem test_v12_3 :
    runsTo [0xFD, 0xCB, 0x01, 0xC6] { cpu0 with iy := 0x9000 } [(0x9001, 0x00)]
      { cpu0 with iy := 0x9000, pc := 0x8004, rlo := 1, memptr := 0x9001, clk := 23 } [(0x9001, 0x01)] = true := by decide

/-- V12.6, `CB at 0xFFFF`. -/
theorem test_v12_6 :
    runsTo [0xCB] { cpu0 with b := 0x01, pc := 0xFFFF } [] { cpu0 with b := 0x02, pc := 0x0001, rlo := 1, clk := 8 }
      [] = true := by decide

/-- What the instruction leaves of the core, or the core itself where it stops. -/
def coreAfter (i : Instr) (s : State) : Cpu :=
  match exec i s with
  | .next t => t.cpu
  | .fault _ => s.cpu
  | .refused _ => s.cpu

/-! ## Device rules (spec/95_test_vectors.md V14) -/

/-- The reset machine with the main ROM's disk ROM in slot 0. -/
def inDisk : State := { State.reset with rom := .disk }

theorem test_latch_selects : ((State.reset.ioWrite 0x7FFD 0x17).ram3, (State.reset.ioWrite 0x7FFD 0x17).rom) = (7, .rom1) := by
  decide
theorem test_latch_locks : ((State.reset.ioWrite 0x7FFD 0x20).ioWrite 0x7FFD 0x07).latch = 0x20 := by decide
theorem test_ay_masks : ((State.reset.ioWrite 0xFFFD 0x08).ioWrite 0xBFFD 0xFF).portValue 0xFFFD = 0x1F := by decide
theorem test_keyboard_idle : State.reset.portValue 0xFEFE = 0xBF := by decide
theorem test_floating_bus_in_blanking : State.reset.portValue 0x00FF = 0xFF := by decide
theorem test_trap_entry : (({ State.reset with rom := .rom1 } : State).fetchMap 0x3D00).rom = .disk := by decide
theorem test_trap_exit : (inDisk.fetchMap 0x4000).rom = .rom0 := by decide
theorem test_latch_missing_bank :
    let s : State := { State.reset with params := { Params.default with ramBanks := 4 } }
    ((s.ioWrite 0x7FFD 0x03).ram3, (s.ioWrite 0x7FFD 0x07).ram3) = (3, 0) := by decide
theorem test_trap_exit_parameter :
    (({ inDisk with params := { Params.default with trapExit := 0x8000 } } : State).fetchMap 0x4000).rom = .disk := by decide
theorem test_access_clk :
    (({ inDisk with params := { Params.default with accessOffset := 3 } } : State).portRead 0x1F).fdc.baseline = 3 := by
  decide
theorem test_cost_override :
    (coreAfter .nop { State.reset with params := { Params.default with tstates := [{ row := 0, tstates := 6, taken := 6 }] } }).clk
      = 6 := by decide

/-- A controller out of reset with an empty image in drive 0, its head on track 5. -/
def seeking : Fdc :=
  { Fdc.reset with
    system := 0x0C, data := 20, track := 5
    drives := Fdc.reset.drives.set 0 { Drive.reset with head := 5, media := some [] } }

/-- V14.12: Seek to 20, then Restore. -/
def restored : Fdc :=
  (((seeking.writeCommand Params.default.fdc 0x10).update Params.default.fdc 10000000).writeCommand Params.default.fdc
    0x00).update Params.default.fdc 20000000

theorem test_v14_12_seek :
    ((seeking.writeCommand Params.default.fdc 0x10).update Params.default.fdc 10000000).drive.head = 20 := by decide
theorem test_v14_12_restore :
    (restored.busy, restored.track, restored.drive.head, restored.statusKind) = (false, 0x00, 0, .typeI) := by decide
theorem test_v14_12_track_zero : restored.statusByte.getLsbD 2 = true ∧ restored.statusByte.getLsbD 0 = false := by
  obtain ⟨-, -, -, -, h2, -, h0⟩ := Fdc.statusByte_typeI restored (by decide)
  exact ⟨h2.trans (by decide), h0.trans (by decide)⟩
theorem test_force_interrupt_idle :
    ({ Fdc.reset with status := 0x14, statusKind := .typeIIorIII } : Fdc).forceInterrupt 0xD0 =
      { Fdc.reset with command := 0xD0, statusKind := .typeI } := by decide
theorem test_media_gone_during_transfer :
    let f := ({ seeking with phase := .request .readSector, status := 0x03 } : Fdc).eject 0
    ((f.update Params.default.fdc 1).phase, (f.update Params.default.fdc 1).status) = (.idle, 0x00) := by decide

/-- A tape timing of few T-states, and the deck of V15.1 playing. -/
def fastTape : TapeTiming :=
  { silence := 10, pilot := 2, pilotHeader := 5, pilotData := 3, sync1 := 1, sync2 := 1, bit0 := 1, bit1 := 2 }
def playing : Tape := ({ Tape.reset with image := [0x01, 0x00, 0xFF] } : Tape).play

/-- V15.1: the states in order, and 3 + 2 + 16 toggles leave the latch at 1. -/
theorem test_v15_1 :
    [0, 10, 16, 17, 18, 49, 50, 60].map (fun n : Int => (playing.update fastTape n).phase) =
      [.silence, .pilot 3, .sync1, .sync2, .data 0 7 false, .data 0 0 true, .silence, .stop] ∧
    (playing.update fastTape 60).latch = true := by decide
theorem test_v15_3 : (((playing.update fastTape 12).halt).phase, (playing.update fastTape 12).halt.image) =
    (.stop, [0x01, 0x00, 0xFF]) := by decide

theorem test_silence : State.reset.audioSample State.reset.ay = { left := 0, right := 0 } := by decide
theorem test_pan_and_beeper :
    let y : Ay := { Ay.reset 1 with regs := (Ay.reset 1).regs.set 7 0x3F |>.set 8 0x0F }
    ({ State.reset with ula := { Ula.reset with beeper := true } } : State).audioSample y =
      { left := 4 * 180 + 128, right := 180 + 128 } := by decide

/-! ## The host's calls -/

/-- A snapshot without pages. -/
def noPages : Snapshot := { variant := .m128, cpu := Cpu.reset, latch := 0, ayRegs := (Ay.reset 0).regs, pages := [] }

theorem test_snapshot_mismatch : State.reset.hostAction (.snapshotLoad noPages) = (.failed .formatError, State.reset) := by
  decide
theorem test_disk_load_short : State.reset.hostAction (.diskLoad 0 .raw [] false) = (.failed .ioError, State.reset) := by
  decide
theorem test_disk_save_absent : State.reset.hostAction (.diskSave 2) = (.failed .mediaAbsent, State.reset) := by decide
theorem test_tape_load_save :
    (State.reset.hostActions [.tapeLoad [0x01, 0x00, 0xFF], .tapeSave, .nmi]).1 =
      [.loaded, .saved [0x01, 0x00, 0xFF], .done] := by decide

theorem test_bitmap_offset : (bitmapOffset 65 3, attributeOffset 65 3) = (2307, 6403) := by decide

/-! ## The word the host places is the instruction that runs -/

/-- What the next step runs after a table word is placed at reset. -/
def placed (nbits w : Nat) : Bool :=
  match decodeTableWord nbits w, step (State.reset.withFetchWord nbits w) with
  | some i, .next t =>
    match runInstr i (State.reset.withFetchWord nbits w).fetch.2 with
    | .next u => decide (u.cpu = t.cpu)
    | _ => false
  | _, _ => false

theorem test_placed_nop : placed 8 0x0 = true := by decide
theorem test_placed_ld_hl_n : placed 8 0x36 = true := by decide
theorem test_placed_cb : placed 16 0xCB06 = true := by decide
theorem test_placed_ed : placed 16 0xEDB0 = true := by decide
theorem test_placed_ddcb : placed 32 0xDDCB0006 = true := by decide
theorem test_placed_fd : placed 16 0xFD36 = true := by decide

/-! ## Witnesses: states and operands that meet the hypotheses of the statements -/

/-- The instruction answers a next state. -/
def completes (i : Instr) (s : State) : Bool :=
  match exec i s with
  | .next _ => true
  | .fault _ => false
  | .refused _ => false

/-- The step answers a next state. -/
def goesOn (s : State) : Bool :=
  match step s with
  | .next _ => true
  | .fault _ => false
  | .refused _ => false

/-- The reset machine at the end of its frame. -/
def dueState : State := { State.reset with cpu := { Cpu.reset with clk := 70908 } }

/-- A machine with a program at 0x8000 whose next instruction crosses the frame's end. -/
def atFrameEnd (op : Byte) : State := holding { cpu0 with clk := 70904 } [(0x8000, op)]

theorem witness_DecodeEncode : (Instr.rotMIxdR .srl 0x80 .a).wellFormed = true := by decide
theorem witness_DecodeEncode_escape : (Instr.fdEscape (.ldRrNn .sp 0xFFFF)).wellFormed = true := by decide
theorem witness_EncodeDecode : decode [0xFD, 0xFD] = .ok (.fdRedundant .fd) := rfl
theorem witness_StepRunsDecodedInstruction :
    let s := holding cpu0 (codeAt 0x8000 [0x3E, 0x07])
    s.frameDue = false ∧ decodesTo s.fetch.1 (.ldRN .a 0x07) = true ∧ (Instr.ldRN .a 0x07).wellFormed = true := by decide
theorem witness_PlainFetch :
    State.reset.rom ≠ State.reset.params.diskRom ∧ State.reset.trapEnters State.reset.cpu.pc = false := by decide
theorem witness_PlainFetch_prefix :
    let s := holding cpu0 (codeAt 0x8000 [0xCB, 0x7E])
    isPrefixByte (s.readByte s.cpu.pc) = true ∧ s.trapEnters (s.cpu.pc + 1) = false ∧ s.rom ≠ s.params.diskRom := by decide
theorem witness_TrapEntry :
    let s : State := { State.reset with rom := .rom1 }
    s.rom = s.params.trapRom ∧ (0x3D00 : Word).toNat < 0x4000 ∧ (0x3D00 : Word) ∈ s.params.trapLoci := by decide
theorem witness_TrapExit :
    ¬(inDisk.rom = inDisk.params.trapRom) ∧ inDisk.rom = inDisk.params.diskRom ∧
      inDisk.params.trapExit.toNat ≤ (0x4000 : Word).toNat ∧ 0x4000 ≤ (0x4000 : Word).toNat := by decide
theorem witness_TrapNeither :
    ¬(inDisk.rom = inDisk.params.trapRom) ∧ ¬(inDisk.params.trapExit.toNat ≤ (0x3FFF : Word).toNat) := by decide
theorem witness_StepGoesOn_stop :
    ({ dueState with
        cpu := { dueState.cpu with iff1 := true }
        params := { Params.default with intBusByte := 0xCD } } : State).StopsAtBusByte :=
  ⟨by decide, by decide, by decide, by decide⟩
theorem witness_StepGoesOn_safe : ¬State.reset.StopsAtBusByte := fun h => absurd h.2.1 (by decide)

theorem reset_memoryOk (p : Params) : (State.resetWith p).MemoryOk := ⟨rfl, rfl⟩

theorem witness_StepKeepsInvariant : State.reset.Inv ∧ goesOn State.reset = true :=
  ⟨{ memory := reset_memoryOk _
     mapping := ⟨by decide, by decide, .inr (by decide)⟩
     drives := fun k => by
      have h : State.reset.fdc.drives[k] = Drive.reset := by revert k; decide
      rw [h]
      exact ⟨by decide, fun m hm => nomatch hm⟩ }, by decide⟩

theorem witness_StepKeepsRomAndParameters :
    goesOn State.reset = true ∧ (131072 ≤ 131072 ∧ 131072 < physical (romPage .disk) 0 + pageSize) ∧
      physical (romPage .rom0) 0 = 131072 ∧ physical (romPage .disk) 0 + pageSize = 180224 := by decide

/-- Every listed instruction does change what it is listed for. -/
theorem witness_SystemStateWriters :
    let s : State := { State.reset with cpu := { Cpu.reset with iff2 := true, a := 0x55, b' := 1, rlo := 1 } }
    (coreAfter .ei s).iff1 = true ∧ (coreAfter .di s).iff2 = false ∧ (coreAfter .reti s).iff1 = true ∧
    (coreAfter (.retn 0) s).iff1 = true ∧ (coreAfter (.im1 2) s).im = .im1 ∧ (coreAfter (.im2 3) s).im = .im2 ∧
    (coreAfter .ldIA s).i = 0x55 ∧ (coreAfter .ldRA s).rlo = 0x55 ∧ (coreAfter .exAfAf s).a' = 0x55 ∧
    (coreAfter .exx s).b = 1 ∧ (coreAfter (.ddEscape .halt) s).halted = true ∧
    (coreAfter (.ddRedundant .ed) s).intBlock = true := by decide
theorem witness_MemoryAndDeviceWriters :
    completes (.incR .b) State.reset = true ∧ storesMemory (.incR .b) = false ∧ usesPort (.incR .b) = false := by decide
theorem witness_ClockOnlyGrows :
    (coreAfter .nop State.reset).clk = 4 ∧ (coreAfter .exMSpIx State.reset).clk = 23 ∧
      (coreAfter (.djnz 0x10) State.reset).clk = 13 ∧ State.reset.params.tstates = [] := by decide
theorem witness_StoreThenRead :
    0x4000 ≤ (0x4000 : Word).toNat ∧ (0x3FFF : Word).toNat < 0x4000 ∧
      State.reset.readLoc 0x4001 ≠ State.reset.writeLoc 0x4000 := by decide
theorem witness_BankSelection :
    (7 : BitVec 3).toNat < State.reset.params.ramBanks ∧ (6 : BitVec 3).toNat < State.reset.params.ramBanks ∧
      0xC000 ≤ (0xC000 : Word).toNat ∧ 0xC000 ≤ (0xFFFF : Word).toNat ∧ (7 : BitVec 3) ≠ 6 ∧ (7 : BitVec 3) ≠ 5 ∧
      (7 : BitVec 3) ≠ 2 ∧ (0xBFFF : Word).toNat < 0xC000 ∧ 0x8000 ≤ (0xBFFF : Word).toNat ∧
      0x4000 ≤ (0x7FFF : Word).toNat ∧ (0x7FFF : Word).toNat < 0x8000 := by decide
/-- V13.4 and its like for bank 2: the aliases of slot 3. -/
theorem witness_BankSelection_alias :
    (((State.reset.selectRamBank 5).writeByte 0xC000 0xAA).readByte 0x4000,
      ((State.reset.selectRamBank 2).writeByte 0xFFFF 0xAA).readByte 0xBFFF) = (0xAA, 0xAA) := by decide
theorem witness_WordsAndStack :
    0x4000 ≤ (0x4000 : Word).toNat ∧ 0x4000 ≤ (0x4000 + 1 : Word).toNat ∧ 0x4000 ≤ (0x4002 - 1 : Word).toNat ∧
      0x4000 ≤ (0x4002 - 2 : Word).toNat := by decide
theorem witness_InterruptAcceptance :
    State.reset.cpu.im = .im0 ∧ State.reset.params.intBusByte &&& 0xC7 = 0xC7 := by decide
theorem witness_ReturnFromInterrupt :
    let s : State := { State.reset with cpu := { Cpu.reset with sp := 0x4002 } }
    0x4000 ≤ (s.cpu.sp - 1).toNat ∧ 0x4000 ≤ (s.cpu.sp - 2).toNat := by decide
theorem witness_FrameBoundary_lost : dueState.frameDue = true ∧ dueState.cpu.iff1 = false ∧ dueState.pending = [] := by
  decide
theorem witness_FrameBoundary_failed : (dueState.hostAction .tapeSave).1 = .failed .mediaAbsent := by decide
theorem witness_FrameBoundary_taken :
    let s : State := { dueState with cpu := { dueState.cpu with iff1 := true, im := .im1 } }
    s.frameDue = true ∧ s.cpu.iff1 = true ∧ ∃ t, s.acceptInt = .next t :=
  ⟨by decide, by decide, _, rfl⟩
theorem witness_InterruptShadow_ei :
    (atFrameEnd 0xFB).frameDue = false ∧ decodesTo (atFrameEnd 0xFB).fetch.1 .ei = true ∧
      goesOn (atFrameEnd 0xFB) = true ∧ (atFrameEnd 0xFB).params.eiShadow = true ∧
      (70908 : Int) ≤ (coreAfter .ei (atFrameEnd 0xFB)).clk := by decide
theorem witness_InterruptShadow_other :
    (atFrameEnd 0x00).frameDue = false ∧ decodesTo (atFrameEnd 0x00).fetch.1 .nop = true ∧
      goesOn (atFrameEnd 0x00) = true ∧ (70908 : Int) ≤ (coreAfter .nop (atFrameEnd 0x00)).clk := by decide
theorem witness_HaltSpins :
    let s := holding cpu0 [(0x8000, 0x76)]
    s.frameDue = false ∧ decodesTo s.fetch.1 .halt = true ∧ s.fetch.2 = s := by decide
theorem witness_Escapes : (Instr.ldRN .a 0x07).escapable = true := by decide
theorem witness_DecimalArithmetic : (99 < 100) ∧ bcd 99 = 0x99 := by decide
theorem witness_Block_again : ({ State.reset with cpu := { Cpu.reset with b := 0, c := 2 } } : State).bc ≠ 1 := by decide
theorem witness_Block_last : ({ State.reset with cpu := { Cpu.reset with b := 0, c := 1 } } : State).bc = 1 := by decide
theorem witness_Conditions :
    refCond .z 0x40 = true ∧ refCond .z 0x00 = false ∧ refCond .pe 0x04 = true ∧ refCond .m 0x80 = true ∧
      refCond .nc 0x01 = false := by decide
theorem witness_PortReads :
    (inDisk.rom = inDisk.params.diskRom ∧ (0x1F : Word).toNat % 256 ∈ [0x1F, 0x3F, 0x5F, 0x7F]) ∧ (0xFF : Word).toNat % 256 = 0xFF ∧
      ((0xFFFC : Word).toNat / 16384 = 3 ∧ (0xFFFC : Word).toNat / 2 % 2 = 0) ∧ (0x00FE : Word).toNat % 2 = 0 ∧
      (State.reset.rom ≠ State.reset.params.diskRom ∧ ¬((0x00FF : Word).toNat / 16384 = 3) ∧ ¬((0x00FF : Word).toNat % 2 = 0)) := by decide
theorem witness_BankLatch :
    State.reset.params.variant = .m128 ∧ (0x7FFD : Word).toNat < 0x8000 ∧ (0x7FFD : Word).toNat / 2 % 2 = 0 ∧
      ¬(bit State.reset.latch.toNat 5 = true) ∧ bit ({ State.reset with latch := 0x20 } : State).latch.toNat 5 = true ∧
      ¬((0xFFFD : Word).toNat < 0x8000) := by decide
theorem witness_SoundRegisters :
    (0xFFFD : Word).toNat / 16384 = 3 ∧ (0xFFFD : Word).toNat / 2 % 2 = 0 ∧ (0xBFFD : Word).toNat / 16384 = 2 ∧
      (0xBFFD : Word).toNat / 2 % 2 = 0 := by decide
theorem witness_UlaPort : (0x00FE : Word).toNat % 2 = 0 := by decide
theorem witness_Floppy_notReady :
    Fdc.reset.drive.media = none ∧ Fdc.reset.busy = false ∧ 0x80 ≤ (0x80 : Byte).toNat ∧ (0x80 : Byte).toNat / 16 ≠ 0xD := by
  decide
theorem witness_Floppy_busy :
    ({ Fdc.reset with phase := .verifying } : Fdc).busy = true ∧ (0x10 : Byte).toNat / 16 ≠ 0xD := by decide
theorem witness_TapePulses :
    Tape.reset.phase = .stop ∧ ({ Tape.reset with phase := .pilot 1 } : Tape).phase ≠ .stop ∧
      ({ Tape.reset with phase := .pilot 1 } : Tape).phase ≠ .silence ∧
      ({ Tape.reset with phase := .silence } : Tape).phase = .silence ∧ Tape.reset.pos = Tape.reset.image.length ∧
      ({ playing with phase := .data 0 0 true } : Tape).blockLength ≤ 0 + 1 := by decide

end Sys2Proof.Tests
end

section
/-! PROOFS. What no step changes, and what every instruction does before it is charged for: the parameters of the machine and
the bytes of its ROM pages stay (spec/20_memory.md R81, R83, R87), and the clock waits for the charge of the row
(spec/10_state.md R48). From these: O12 and O15. -/

namespace Sys2Proof.Machine

/-! ## What an effect keeps -/

/-- What no step changes: the parameters (R8), and the byte at every address of a ROM page (R81). -/
structure Fixed where
  params : Params
  romByte : {k // romLocation k} → Byte

/-- The fixed part of a state. -/
def State.fixed (s : State) : Fixed := { params := s.params, romByte := fun k => Memory.read s.mem k }

/-- What an instruction keeps until its charge: the fixed part, and the clock (R48). -/
def State.kept (s : State) : Fixed × Int := (s.fixed, s.cpu.clk)

theorem State.fixed_congr {s t : State} (hp : t.params = s.params) (hm : t.mem = s.mem) : t.fixed = s.fixed := by
  rw [State.fixed, State.fixed, hp, hm]

theorem State.fixed_eq_iff {s t : State} :
    t.fixed = s.fixed ↔ t.params = s.params ∧ ∀ k, romLocation k → Memory.read t.mem k = Memory.read s.mem k := by
  simp [State.fixed, funext_iff]

theorem State.kept_congr {s t : State} (hp : t.params = s.params) (hm : t.mem = s.mem) (hc : t.cpu.clk = s.cpu.clk) :
    t.kept = s.kept := by
  rw [State.kept, State.kept, State.fixed_congr hp hm, hc]

theorem State.kept_eq_iff {s t : State} : t.kept = s.kept ↔ t.fixed = s.fixed ∧ t.cpu.clk = s.cpu.clk := Prod.mk_inj

/-- A store reaches RAM or the null sink, never a ROM page (R83, R87). -/
theorem State.not_romLocation_writeLoc (s : State) (a : Word) : ¬romLocation (s.writeLoc a) := by
  have ho := offOf_lt a
  have hp := s.writePage_cases (slotOf a)
  simp only [romLocation, State.writeLoc, physical, romPage, pageSize, sinkPage] at *
  omega

@[simp] theorem State.writeByte_fixed (s : State) (a : Word) (v : Byte) : (s.writeByte a v).fixed = s.fixed := by
  refine State.fixed_eq_iff.mpr ⟨by simp, fun k hk => ?_⟩
  have hne : k ≠ s.writeLoc a := fun h => s.not_romLocation_writeLoc a (h ▸ hk)
  rw [State.writeByte_mem, Memory.read_write_other _ v hne]

@[simp] theorem State.writeByte_kept (s : State) (a : Word) (v : Byte) : (s.writeByte a v).kept = s.kept :=
  State.kept_eq_iff.mpr ⟨by simp, by simp⟩

/-! ### Registers and control transfer -/

@[simp] theorem State.setA_kept (s : State) (v : Byte) : (s.setA v).kept = s.kept := rfl
@[simp] theorem State.setF_kept (s : State) (v : Byte) : (s.setF v).kept = s.kept := rfl
@[simp] theorem State.setB_kept (s : State) (v : Byte) : (s.setB v).kept = s.kept := rfl
@[simp] theorem State.setC_kept (s : State) (v : Byte) : (s.setC v).kept = s.kept := rfl
@[simp] theorem State.setD_kept (s : State) (v : Byte) : (s.setD v).kept = s.kept := rfl
@[simp] theorem State.setE_kept (s : State) (v : Byte) : (s.setE v).kept = s.kept := rfl
@[simp] theorem State.setHl_kept (s : State) (v : Word) : (s.setHl v).kept = s.kept := rfl
@[simp] theorem State.setDe_kept (s : State) (v : Word) : (s.setDe v).kept = s.kept := rfl
@[simp] theorem State.setBc_kept (s : State) (v : Word) : (s.setBc v).kept = s.kept := rfl
@[simp] theorem State.setSp_kept (s : State) (v : Word) : (s.setSp v).kept = s.kept := rfl
@[simp] theorem State.setPc_kept (s : State) (v : Word) : (s.setPc v).kept = s.kept := rfl
@[simp] theorem State.setMemptr_kept (s : State) (v : Word) : (s.setMemptr v).kept = s.kept := rfl
@[simp] theorem State.setI_kept (s : State) (v : Byte) : (s.setI v).kept = s.kept := rfl
@[simp] theorem State.setR_kept (s : State) (v : Byte) : (s.setR v).kept = s.kept := rfl
@[simp] theorem State.setIm_kept (s : State) (m : IntMode) : (s.setIm m).kept = s.kept := rfl
@[simp] theorem State.setIff1_kept (s : State) (v : Bool) : (s.setIff1 v).kept = s.kept := rfl
@[simp] theorem State.setIff2_kept (s : State) (v : Bool) : (s.setIff2 v).kept = s.kept := rfl
@[simp] theorem State.setHalted_kept (s : State) (v : Bool) : (s.setHalted v).kept = s.kept := rfl
@[simp] theorem State.setIntBlock_kept (s : State) (v : Bool) : (s.setIntBlock v).kept = s.kept := rfl
@[simp] theorem State.refresh_kept (s : State) (n : Nat) : (s.refresh n).kept = s.kept := rfl
@[simp] theorem State.swapAf_kept (s : State) : s.swapAf.kept = s.kept := rfl
@[simp] theorem State.swapBank_kept (s : State) : s.swapBank.kept = s.kept := rfl
@[simp] theorem State.jump_kept (s : State) (w : Word) : (s.jump w).kept = s.kept := rfl
@[simp] theorem State.popSp_kept (s : State) : s.popSp.kept = s.kept := rfl
@[simp] theorem State.popPc_kept (s : State) : s.popPc.kept = s.kept := rfl
@[simp] theorem State.repeatPc_kept (s : State) : s.repeatPc.kept = s.kept := rfl
@[simp] theorem State.returnFromInterrupt_kept (s : State) : s.returnFromInterrupt.kept = s.kept := by
  simp [State.returnFromInterrupt]

@[simp] theorem State.setReg8_kept (s : State) (r : Reg8) (v : Byte) : (s.setReg8 r v).kept = s.kept := by cases r <;> rfl
@[simp] theorem State.setPair_kept (s : State) (p : RegPair) (v : Word) : (s.setPair p v).kept = s.kept := by cases p <;> rfl
@[simp] theorem State.setStackPair_kept (s : State) (q : StackPair) (v : Word) : (s.setStackPair q v).kept = s.kept := by
  cases q <;> rfl
@[simp] theorem State.setXy_kept (s : State) (x : IdxReg) (v : Word) : (s.setXy x v).kept = s.kept := by cases x <;> rfl
@[simp] theorem State.setHalf_kept (s : State) (x : IdxReg) (h : Half) (v : Byte) : (s.setHalf x h v).kept = s.kept := by
  cases h <;> simp [State.setHalf]
@[simp] theorem State.setHreg_kept (s : State) (x : IdxReg) (r : HReg) (v : Byte) : (s.setHreg x r v).kept = s.kept := by
  cases r <;> simp [State.setHreg]
@[simp] theorem State.moveHalf_kept (s : State) (x : IdxReg) (t r : HReg) : (s.moveHalf x t r).kept = s.kept := by
  simp [State.moveHalf]

/-! ### Loads, stores and ports -/

@[simp] theorem State.writeWord_kept (s : State) (a v : Word) : (s.writeWord a v).kept = s.kept := by simp [State.writeWord]
@[simp] theorem State.push16_kept (s : State) (v : Word) : (s.push16 v).kept = s.kept := by simp [State.push16]
@[simp] theorem State.call_kept (s : State) (w : Word) : (s.call w).kept = s.kept := by simp [State.call]
@[simp] theorem State.storeTop_kept (s : State) (v : Word) : (s.storeTop v).kept = s.kept := by simp [State.storeTop]
@[simp] theorem State.storeA_kept (s : State) (a : Word) : (s.storeA a).kept = s.kept := by simp [State.storeA]
@[simp] theorem State.loadIndexed_kept (s : State) (x : IdxReg) (r : Reg8) (d : Byte) : (s.loadIndexed x r d).kept = s.kept := by
  simp [State.loadIndexed]
@[simp] theorem State.storeIndexed_kept (s : State) (x : IdxReg) (d v : Byte) : (s.storeIndexed x d v).kept = s.kept := by
  simp [State.storeIndexed]
@[simp] theorem State.loadAFrom_kept (s : State) (v : Byte) : (s.loadAFrom v).kept = s.kept := by simp [State.loadAFrom]
@[simp] theorem State.portRead_kept (s : State) (p : Word) : (s.portRead p).kept = s.kept :=
  State.kept_congr (by simp) (by simp) (by simp)
@[simp] theorem State.ioWrite_kept (s : State) (p : Word) (v : Byte) : (s.ioWrite p v).kept = s.kept :=
  State.kept_congr (by simp) (by simp) (by simp)

/-! ### Arithmetic, rotates and bits -/

@[simp] theorem State.setAF_kept (s : State) (x : Res8) : (s.setAF x).kept = s.kept := rfl
@[simp] theorem State.addA_kept (s : State) (v : Byte) : (s.addA v).kept = s.kept := rfl
@[simp] theorem State.adcA_kept (s : State) (v : Byte) : (s.adcA v).kept = s.kept := rfl
@[simp] theorem State.subA_kept (s : State) (v : Byte) : (s.subA v).kept = s.kept := rfl
@[simp] theorem State.sbcA_kept (s : State) (v : Byte) : (s.sbcA v).kept = s.kept := rfl
@[simp] theorem State.andA_kept (s : State) (v : Byte) : (s.andA v).kept = s.kept := rfl
@[simp] theorem State.xorA_kept (s : State) (v : Byte) : (s.xorA v).kept = s.kept := rfl
@[simp] theorem State.orA_kept (s : State) (v : Byte) : (s.orA v).kept = s.kept := rfl
@[simp] theorem State.cpA_kept (s : State) (v : Byte) : (s.cpA v).kept = s.kept := rfl
@[simp] theorem State.incMem_kept (s : State) (a : Word) : (s.incMem a).kept = s.kept := by simp [State.incMem]
@[simp] theorem State.decMem_kept (s : State) (a : Word) : (s.decMem a).kept = s.kept := by simp [State.decMem]
@[simp] theorem State.incHalf_kept (s : State) (x : IdxReg) (h : Half) : (s.incHalf x h).kept = s.kept := by
  simp [State.incHalf]
@[simp] theorem State.decHalf_kept (s : State) (x : IdxReg) (h : Half) : (s.decHalf x h).kept = s.kept := by
  simp [State.decHalf]
@[simp] theorem State.setHlF_kept (s : State) (x : Res16) : (s.setHlF x).kept = s.kept := rfl
@[simp] theorem State.addXy_kept (s : State) (x : IdxReg) (p : IdxPair) : (s.addXy x p).kept = s.kept := by
  simp [State.addXy]
@[simp] theorem State.rotReg_kept (s : State) (o : Rot) (r : Reg8) : (s.rotReg o r).kept = s.kept := by simp [State.rotReg]
@[simp] theorem State.rotMem_kept (s : State) (o : Rot) (a : Word) : (s.rotMem o a).kept = s.kept := by simp [State.rotMem]
@[simp] theorem State.rotMemReg_kept (s : State) (x : IdxReg) (o : Rot) (d : Byte) (r : Reg8) :
    (s.rotMemReg x o d r).kept = s.kept := by simp [State.rotMemReg]
@[simp] theorem State.setDigit_kept (s : State) (v : BitVec 4) : (s.setDigit v).kept = s.kept := rfl
@[simp] theorem State.bitIndexed_kept (s : State) (x : IdxReg) (b : BitVec 3) (d : Byte) :
    (s.bitIndexed x b d).kept = s.kept := rfl
@[simp] theorem State.resIndexed_kept (s : State) (x : IdxReg) (b : BitVec 3) (d : Byte) :
    (s.resIndexed x b d).kept = s.kept := by simp [State.resIndexed]
@[simp] theorem State.setIndexed_kept (s : State) (x : IdxReg) (b : BitVec 3) (d : Byte) :
    (s.setIndexed x b d).kept = s.kept := by simp [State.setIndexed]

/-! ### Block steps -/

@[simp] theorem State.stepHl_kept (s : State) (up : Bool) : (s.stepHl up).kept = s.kept := rfl
@[simp] theorem State.stepDe_kept (s : State) (up : Bool) : (s.stepDe up).kept = s.kept := rfl
@[simp] theorem State.blockMove_kept (s : State) (up : Bool) : (s.blockMove up).kept = s.kept := by simp [State.blockMove]
@[simp] theorem State.blockCompare_kept (s : State) (up : Bool) : (s.blockCompare up).kept = s.kept := rfl
@[simp] theorem State.blockIn_kept (s : State) (up : Bool) : (s.blockIn up).kept = s.kept := by simp [State.blockIn]
@[simp] theorem State.blockOut_kept (s : State) (up : Bool) : (s.blockOut up).kept = s.kept := by simp [State.blockOut]

/-! ## An instruction is an effect and then its charge -/

/-- `t` is `s` after an effect that keeps the fixed part and the clock, and after one of the two charges of the row of `i`. -/
def Charged (i : Instr) (s t : State) : Prop := ∃ u : State, u.kept = s.kept ∧ (t = u.charge i ∨ t = u.chargeTaken i)

theorem Charged.of_charge {i : Instr} {s u : State} (h : u.kept = s.kept) : Charged i s (u.charge i) := ⟨u, h, .inl rfl⟩

theorem Charged.of_chargeTaken {i : Instr} {s u : State} (h : u.kept = s.kept) : Charged i s (u.chargeTaken i) :=
  ⟨u, h, .inr rfl⟩

theorem Charged.ite {i : Instr} {s t t' : State} {p : Prop} [Decidable p] (h : Charged i s t) (h' : Charged i s t') :
    Charged i s (if p then t else t') := by
  split
  · exact h
  · exact h'

theorem Charged.repeatBlock {i : Instr} {s u : State} (again : Bool) (h : u.kept = s.kept) :
    Charged i s (u.repeatBlock i again) := .ite (.of_chargeTaken (by simpa using h)) (.of_charge h)

theorem Charged.repeatIo {i : Instr} {s u : State} (h : u.kept = s.kept) : Charged i s (u.repeatIo i) :=
  .ite (.of_chargeTaken (by simpa using h)) (.of_charge h)

/-- Every instruction but an escape is its own core, and it is an effect and then the charge of its row: the conditional and
the repeating ones choose between the row's two costs, the others have one (R48, R162). -/
theorem exec_charged_or_escape (i : Instr) (s : State) :
    (Claims.core i = i ∧ Claims.prefixCost s i = 0 ∧ ∃ t, exec i s = .next t ∧ Charged i s t) ∨
      ∃ j, i = .ddEscape j ∨ i = .fdEscape j := by
  cases i with
  | ddEscape j => exact .inr ⟨j, .inl rfl⟩
  | fdEscape j => exact .inr ⟨j, .inr rfl⟩
  | jrCc | djnz | callCcNn | retCc =>
    exact .inl ⟨rfl, rfl, _, rfl, .ite (.of_chargeTaken (by simp)) (.of_charge (by simp))⟩
  | ldir | lddr | cpir | cpdr => exact .inl ⟨rfl, rfl, _, rfl, .repeatBlock _ (by simp)⟩
  | inir | indr | otir | otdr => exact .inl ⟨rfl, rfl, _, rfl, .repeatIo (by simp)⟩
  | _ => exact .inl ⟨rfl, rfl, _, rfl, .of_charge (by simp [apply_ite State.kept])⟩

/-- An escape runs the meaning that `exec` gives its base instruction. -/
theorem execPlain_eq_exec {j : Instr} (h : j.escapable = true) (s : State) : execPlain j s = exec j s := by
  cases j <;> simp [Instr.escapable] at h <;> rfl

/-- What a base instruction costs leaves room for a prefix below the table's highest cost. -/
theorem escapable_cost_le {j : Instr} (h : j.escapable = true) :
    j.tstates ≤ 17 ∧ j.tstatesTaken ≤ 17 := by
  cases j <;> simp [Instr.escapable] at h <;> exact ⟨Nat.le_of_ble_eq_true rfl, Nat.le_of_ble_eq_true rfl⟩

/-- A charge leaves the fixed part. -/
theorem Charged.fixed {i : Instr} {s t : State} (h : Charged i s t) : t.fixed = s.fixed := by
  obtain ⟨u, hu, rfl | rfl⟩ := h <;> exact (State.kept_eq_iff.mp hu).1

/-- The charge moves the clock on by one of the row's two costs. -/
theorem Charged.clk {i : Instr} {s t : State} (h : Charged i s t) :
    t.cpu.clk = s.cpu.clk + s.tstates i ∨ t.cpu.clk = s.cpu.clk + s.tstatesTaken i := by
  obtain ⟨u, hu, ht⟩ := h
  obtain ⟨hf, hc⟩ := State.kept_eq_iff.mp hu
  have hp := (State.fixed_eq_iff.mp hf).1
  rcases ht with rfl | rfl
  · exact .inl (by simp [State.tstates, hp, hc])
  · exact .inr (by simp [State.tstatesTaken, hp, hc])

/-- An escape that runs is that of an escapable instruction, whose charge is followed by the charge of the escape's row (R151). -/
theorem escapeInto_charged {row j : Instr} {s t : State} (h : escapeInto row j s = .next t) :
    j.escapable = true ∧ ∃ m, Charged j s m ∧ t = m.tick (s.tstates row) := by
  unfold escapeInto at h
  split at h
  case isFalse => cases h
  case isTrue he =>
    refine ⟨he, ?_⟩
    rw [execPlain_eq_exec he] at h
    obtain ⟨-, -, m, hm, hc⟩ | ⟨k, rfl | rfl⟩ := exec_charged_or_escape j s
    · rw [hm] at h
      cases h
      have hp := (State.fixed_eq_iff.mp hc.fixed).1
      exact ⟨m, hc, by rw [State.charge, State.tstates, State.tstates, hp]⟩
    · cases he
    · cases he

/-- What an instruction leaves: the state charged for its core, and then the cost an escape's prefix adds (R151). -/
theorem exec_charged {i : Instr} {s t : State} (h : exec i s = .next t) :
    ∃ m, Charged (Claims.core i) s m ∧ t = m.tick (Claims.prefixCost s i) := by
  obtain ⟨hi, h0, m, hm, hc⟩ | ⟨j, rfl | rfl⟩ := exec_charged_or_escape i s
  · rw [hm] at h
    cases h
    exact ⟨t, hi.symm ▸ hc, by simp [h0, State.tick]⟩
  · exact (escapeInto_charged (row := .ddEscape j) h).2
  · exact (escapeInto_charged (row := .fdEscape j) h).2

/-- No instruction changes the fixed part. -/
theorem exec_fixed {i : Instr} {s t : State} (h : exec i s = .next t) : t.fixed = s.fixed := by
  obtain ⟨m, hc, rfl⟩ := exec_charged h
  exact hc.fixed

/-- An instruction moves the clock on by one of its row's two costs and by the cost of its prefix. -/
theorem exec_clk {i : Instr} {s t : State} (h : exec i s = .next t) :
    t.cpu.clk = s.cpu.clk + s.tstates (Claims.core i) + Claims.prefixCost s i ∨
      t.cpu.clk = s.cpu.clk + s.tstatesTaken (Claims.core i) + Claims.prefixCost s i := by
  obtain ⟨m, hc, rfl⟩ := exec_charged h
  simpa only [State.tick_cpu, add_left_inj] using hc.clk

/-! ## The costs of the table (O15) -/

/-- A machine that replaces no row charges what spec/opcode_table.json says. -/
theorem State.tstates_of_nil {s : State} (hs : s.params.tstates = []) (i : Instr) :
    s.tstates i = i.tstates ∧ s.tstatesTaken i = i.tstatesTaken := Params.cost_of_absent (by simp [hs])

/-- With the table's own costs an instruction that runs takes at most 23 T-states, the prefix of an escape included. -/
theorem exec_cost_le {i : Instr} {s t : State} (h : exec i s = .next t) (hs : s.params.tstates = []) :
    s.tstates (Claims.core i) + Claims.prefixCost s i ≤ 23 ∧ s.tstatesTaken (Claims.core i) + Claims.prefixCost s i ≤ 23 := by
  have hcost := State.tstates_of_nil hs
  have hescape {row j : Instr} (h : escapeInto row j s = .next t) (hr : row.tstates = 4) :
      s.tstates j + s.tstates row ≤ 23 ∧ s.tstatesTaken j + s.tstates row ≤ 23 := by
    have hj := escapable_cost_le (escapeInto_charged h).1
    rw [(hcost j).1, (hcost j).2, (hcost row).1, hr]
    omega
  obtain ⟨hi, h0, -⟩ | ⟨j, rfl | rfl⟩ := exec_charged_or_escape i s
  · rw [hi, h0, (hcost i).1, (hcost i).2]
    exact ⟨i.tstates_bounds.2, i.tstatesTaken_bounds.2⟩
  · exact hescape h rfl
  · exact hescape h rfl

/-- Settles O15: every instruction is an effect that leaves the clock, and then the charge of its row and of its prefix. -/
theorem clockOnlyGrows : Obligations.ClockOnlyGrows := by
  unfold Obligations.ClockOnlyGrows
  refine ⟨fun i s t h => ?_, fun i s => ⟨Params.cost_of_absent, fun r rest hs hr => Params.cost_of_row ?_⟩⟩
  · have hclk := exec_clk h
    refine ⟨by omega, hclk, fun hs => ?_⟩
    have hle := exec_cost_le h hs
    have hlo := (Claims.core i).tstates_bounds.1
    have hlo' := (Claims.core i).tstatesTaken_bounds.1
    obtain ⟨hcost, hcost'⟩ := State.tstates_of_nil hs (Claims.core i)
    omega
  · simp [Params.costRow, hs, hr]

/-! ## The frame boundary keeps the fixed part -/

@[simp] theorem State.exitHalt_kept (s : State) : s.exitHalt.kept = s.kept :=
  State.kept_congr (by simp) (by simp) (by simp [State.exitHalt_eq])

/-- Taking an interrupt writes memory only by the push of PC (R532, R537, R540). -/
@[simp] theorem State.takeInterrupt_fixed (s : State) (n : Bool) (w : Option Word) (a : Word) (c : Nat) :
    (s.takeInterrupt n w a c).fixed = s.fixed := by
  let s1 := ((s.exitHalt.setIff1 false).setIff2 (n && s.cpu.iff2)).refresh 1
  have hpush : (s1.push16 s1.cpu.pc).kept = s.kept := by simp [s1]
  have hmem : (s.takeInterrupt n w a c).mem = (s1.push16 s1.cpu.pc).mem := by
    simp only [State.takeInterrupt, State.setIntBlock_mem, State.tick_mem, State.jump_mem, s1]
  exact (State.fixed_congr (by simp [s1]) hmem).trans (State.kept_eq_iff.mp hpush).1

theorem State.acceptInt_fixed {s t : State} (h : s.acceptInt = .next t) : t.fixed = s.fixed := by
  unfold State.acceptInt at h
  split at h
  · split at h
    · cases h
      simp
    · cases h
  · cases h
    simp
  · cases h
    simp

theorem State.interruptCheck_fixed {s t : State} (h : s.interruptCheck = .next t) : t.fixed = s.fixed := by
  unfold State.interruptCheck at h
  split at h
  · exact State.acceptInt_fixed h
  · cases h
    rfl

/-- The entries from an address upward read as they did. -/
theorem Memory.read_above (m : Memory) {lo k : Nat} (h : lo ≤ k) : Memory.read (Memory.above m lo) k = Memory.read m k := by
  induction m with
  | nil => rfl
  | cons c m ih =>
    obtain ⟨j, v⟩ := c
    by_cases hj : lo ≤ j
    · simp only [Memory.above, List.filter_cons, hj, decide_true, if_true, Memory.read_cons] at ih ⊢
      rw [ih]
    · rw [Memory.read_cons, if_neg (by omega), ← ih]
      simp [Memory.above, hj]

/-- A snapshot replaces RAM and leaves what stands above it (R585). -/
theorem State.withSnapshot_fixed {s : State} {snap : Snapshot} (hf : s.snapshotFits snap = true) :
    (s.withSnapshot snap).fixed = s.fixed := by
  refine State.fixed_eq_iff.mpr ⟨rfl, fun k hk => ?_⟩
  have hram := (Snapshot.ram_canonical snap s.ramPages 0 s.ramPages_sorted.1 s.ramPages_sorted.2
    fun p hp => State.snapshotFits_page hf hp).2
  calc Memory.read (snap.ram s.ramPages ++ Memory.above s.mem ramEnd) k
      = Memory.read (Memory.above s.mem ramEnd) k := Memory.read_append_ge hram hk.1
    _ = Memory.read s.mem k := Memory.read_above s.mem hk.1

theorem State.loadSnapshot_fixed {s t : State} {snap : Snapshot} (h : s.loadSnapshot snap = .ok t) : t.fixed = s.fixed := by
  obtain ⟨hf, ht⟩ := State.loadSnapshot_ok h
  rw [ht]
  exact State.withSnapshot_fixed hf

theorem State.afterLoad_fixed {s : State} {r : Except HostError State} (h : ∀ t, r = .ok t → t.fixed = s.fixed) :
    (s.afterLoad r).2.fixed = s.fixed := by
  obtain ⟨t, hr, ha⟩ | ⟨e, -, ha⟩ := s.afterLoad_cases r
  · rw [ha]
    exact h t hr
  · rw [ha]

/-- No host call changes the fixed part (R584): an NMI pushes PC, a snapshot replaces RAM, and the others touch no memory. -/
theorem State.hostAction_fixed (s : State) (a : HostAction) : (s.hostAction a).2.fixed = s.fixed := by
  cases a with
  | nmi => exact s.takeInterrupt_fixed _ _ _ _
  | snapshotLoad snap => exact State.afterLoad_fixed fun _ => State.loadSnapshot_fixed
  | diskLoad drive format bytes protect =>
    refine State.afterLoad_fixed fun t ht => ?_
    cases hd : s.fdc.load drive format bytes protect with
    | error e =>
      rw [hd] at ht
      cases ht
    | ok f =>
      rw [hd] at ht
      cases ht
      rfl
  | _ => rfl

theorem State.hostActions_fixed (s : State) (as : List HostAction) : (s.hostActions as).2.fixed = s.fixed := by
  induction as generalizing s with
  | nil => rfl
  | cons a as ih => exact (ih _).trans (s.hostAction_fixed a)

/-- The interrupt check may push PC, the devices and the rebase touch neither memory nor parameters (R530, R570). -/
theorem State.frameEnd_fixed {s t : State} (h : s.frameEnd = .next t) : t.fixed = s.fixed := by
  unfold State.frameEnd at h
  split at h
  case h_1 u hu =>
    cases h
    calc u.devicesFrameEnd.rebase.runPending.fixed
        = u.devicesFrameEnd.rebase.fixed := State.hostActions_fixed _ _
      _ = u.fixed := rfl
      _ = s.fixed := State.interruptCheck_fixed hu
  case h_2 => cases h
  case h_3 => cases h

/-! ## An instruction's step keeps the fixed part -/

@[simp] theorem State.fetchMap_fixed (s : State) (a : Word) : (s.fetchMap a).fixed = s.fixed :=
  State.fixed_congr (by simp) (by simp)

theorem State.fetch_fixed (s : State) : s.fetch.2.fixed = s.fixed := by
  simp only [State.fetch, State.fetchedMap]
  split <;> simp

theorem State.begin_fixed (s : State) (i : Instr) : (s.begin i).fixed = s.fixed := by
  unfold State.begin
  split <;> rfl

theorem State.finish_fixed (s : State) : s.finish.fixed = s.fixed := by
  unfold State.finish
  split <;> rfl

theorem runInstr_fixed {i : Instr} {s t : State} (h : runInstr i s = .next t) : t.fixed = s.fixed := by
  unfold runInstr at h
  split at h
  case h_1 u hu =>
    cases h
    calc u.finish.fixed
        = u.fixed := u.finish_fixed
      _ = (s.begin i).fixed := exec_fixed hu
      _ = s.fixed := s.begin_fixed i
  case h_2 => cases h
  case h_3 => cases h

theorem State.instrStep_fixed {s t : State} (h : s.instrStep = .next t) : t.fixed = s.fixed := by
  unfold State.instrStep at h
  split at h
  · exact (runInstr_fixed h).trans s.fetch_fixed
  · cases h

/-- Every step keeps the fixed part: the frame boundary's and an instruction's. -/
theorem step_fixed {s t : State} (h : step s = .next t) : t.fixed = s.fixed := by
  unfold step at h
  split at h
  · exact State.frameEnd_fixed h
  · exact State.instrStep_fixed h

/-- Settles O12: parameters and ROM bytes are the fixed part, which every step keeps. -/
theorem stepKeepsRomAndParameters : Obligations.StepKeepsRomAndParameters := by
  unfold Obligations.StepKeepsRomAndParameters
  exact fun s t h => State.fixed_eq_iff.mp (step_fixed h)

end Sys2Proof.Machine
end

section
/-! PROOFS. The state of the core (spec/10_state.md): which part of it only listed instructions write, what a step does with the
instruction it fetched, HALT, the interrupt shadow, and the values at reset. From these: O13, O23, O24, O5 and O9. -/

namespace Sys2Proof.Machine

/-! ## The system part of the core (R31, R40 to R46) -/

/-- The part of the core that only listed instructions write. -/
structure SystemPart where
  iff1 : Bool
  iff2 : Bool
  im : IntMode
  i : Byte
  r : Byte
  halted : Bool
  intBlock : Bool
  af' : Word
  b' : Byte
  c' : Byte
  d' : Byte
  e' : Byte
  h' : Byte
  l' : Byte

/-- The system part of a core; R is seen whole (R41). -/
def Cpu.system (u : Cpu) : SystemPart where
  iff1 := u.iff1
  iff2 := u.iff2
  im := u.im
  i := u.i
  r := BitVec.ofBool u.rhi ++ u.rlo
  halted := u.halted
  intBlock := u.intBlock
  af' := Word.ofBytes u.a' u.f'
  b' := u.b'
  c' := u.c'
  d' := u.d'
  e' := u.e'
  h' := u.h'
  l' := u.l'

/-- What an instruction writes of the system part: each arm but the last is a writer. -/
def systemWrite (i : Instr) (u : Cpu) : Cpu :=
  match i with
  | .ei => { u with iff1 := true, iff2 := true, intBlock := true }
  | .di => { u with iff1 := false, iff2 := false }
  | .reti | .retn _ => { u with iff1 := u.iff2 }
  | .im0 _ => { u with im := .im0 }
  | .im1 _ => { u with im := .im1 }
  | .im2 _ => { u with im := .im2 }
  | .ldIA => { u with i := u.a }
  | .ldRA => { u with rhi := u.a.getLsbD 7, rlo := u.a.extractLsb' 0 7 }
  | .exAfAf => { u with a' := u.a, f' := u.f }
  | .exx => { u with b' := u.b, c' := u.c, d' := u.d, e' := u.e, h' := u.h, l' := u.l }
  | .halt => { u with halted := true }
  | .ddRedundant _ | .fdRedundant _ => { u with intBlock := true }
  | _ => u

/-- An update of the main registers, IX, IY, SP, PC, MEMPTR and the clock leaves the system part. -/
@[simp] theorem Cpu.system_update (u : Cpu) (a f b c d e h l : Byte) (ix iy sp pc memptr : Word) (clk : Int) :
    ({ u with a, f, b, c, d, e, h, l, ix, iy, sp, pc, memptr, clk } : Cpu).system = u.system := rfl

@[simp] theorem State.setReg8_system (s : State) (r : Reg8) (v : Byte) : (s.setReg8 r v).cpu.system = s.cpu.system := by
  cases r <;> rfl
@[simp] theorem State.setPair_system (s : State) (p : RegPair) (v : Word) : (s.setPair p v).cpu.system = s.cpu.system := by
  cases p <;> rfl
@[simp] theorem State.setStackPair_system (s : State) (q : StackPair) (v : Word) :
    (s.setStackPair q v).cpu.system = s.cpu.system := by
  cases q <;> rfl
@[simp] theorem State.setXy_system (s : State) (x : IdxReg) (v : Word) : (s.setXy x v).cpu.system = s.cpu.system := by
  cases x <;> rfl
@[simp] theorem State.setHalf_system (s : State) (x : IdxReg) (h : Half) (v : Byte) :
    (s.setHalf x h v).cpu.system = s.cpu.system := by
  cases h <;> simp [State.setHalf]
@[simp] theorem State.setHreg_system (s : State) (x : IdxReg) (r : HReg) (v : Byte) :
    (s.setHreg x r v).cpu.system = s.cpu.system := by
  cases r <;> simp [State.setHreg]

/-- Every instruction but an escape goes on, and what it does to the system part is what `systemWrite` says: the writers by
their own updates, every other instruction because the operations it is made of update main registers, memory and devices. -/
theorem exec_system_or_escape (i : Instr) (s : State) :
    (Claims.core i = i ∧ ∃ t, exec i s = .next t ∧ t.cpu.system = (systemWrite i s.cpu).system) ∨
      ∃ j, i = .ddEscape j ∨ i = .fdEscape j := by
  cases i with
  | ddEscape j => exact .inr ⟨j, .inl rfl⟩
  | fdEscape j => exact .inr ⟨j, .inr rfl⟩
  | ei | di | reti | retn | im0 | im1 | im2 | ldIA | ldRA | exAfAf | exx | halt | ddRedundant | fdRedundant =>
    exact .inl ⟨rfl, _, rfl, by simp [systemWrite, State.returnFromInterrupt, Cpu.system]⟩
  | _ =>
    exact .inl ⟨rfl, _, rfl, by
      simp [systemWrite, apply_ite State.cpu, apply_ite Cpu.system, State.setAF, State.addA, State.adcA, State.subA,
        State.sbcA, State.andA, State.xorA, State.orA, State.cpA, State.incMem, State.decMem, State.incHalf, State.decHalf,
        State.setHlF, State.addXy, State.rotReg, State.rotMem, State.rotMemReg, State.setDigit, State.bitIndexed,
        State.resIndexed, State.setIndexed, State.stepHl, State.stepDe, State.blockMove, State.blockCompare, State.blockIn,
        State.blockOut, State.repeatBlock, State.repeatIo, State.call, State.storeTop, State.storeA, State.loadIndexed,
        State.storeIndexed, State.moveHalf, State.loadAFrom]⟩

/-- An escape that runs does to the system part what its base instruction does (R151). -/
theorem escapeInto_system {row j : Instr} {s t : State} (h : escapeInto row j s = .next t) :
    t.cpu.system = (systemWrite j s.cpu).system := by
  have he := (escapeInto_charged h).1
  simp only [escapeInto, if_pos he, execPlain_eq_exec he] at h
  obtain ⟨-, m, hm, hs⟩ | ⟨k, rfl | rfl⟩ := exec_system_or_escape j s
  · rw [hm] at h
    cases h
    simpa using hs
  · cases he
  · cases he

/-- The system part after an instruction that runs. -/
theorem exec_system {i : Instr} {s t : State} (h : exec i s = .next t) :
    t.cpu.system = (systemWrite (Claims.core i) s.cpu).system := by
  obtain ⟨hi, m, hm, hs⟩ | ⟨j, rfl | rfl⟩ := exec_system_or_escape i s
  · rw [hm] at h
    cases h
    rw [hi, hs]
  · exact escapeInto_system (row := .ddEscape j) h
  · exact escapeInto_system (row := .fdEscape j) h

/-- An instruction that runs and whose core no prefix escapes into is that core. -/
theorem eq_of_core_eq {i j : Instr} {s t : State} (h : exec i s = .next t) (hj : Claims.core i = j)
    (he : j.escapable = false) : i = j := by
  obtain ⟨hi, -⟩ | ⟨k, rfl | rfl⟩ := exec_charged_or_escape i s
  · exact hi.symm.trans hj
  · cases hj
    cases he.symm.trans (escapeInto_charged (row := .ddEscape k) h).1
  · cases hj
    cases he.symm.trans (escapeInto_charged (row := .fdEscape k) h).1

/-- Who writes which field: read off the arms of `systemWrite`. -/
theorem systemWrite_writers (i : Instr) (u : Cpu) :
    let p := (systemWrite i u).system
    let q := u.system
    (p.iff1 = q.iff1 ∨ i ∈ [.ei, .di, .reti] ∨ ∃ y, i = .retn y) ∧
    (p.iff2 = q.iff2 ∨ i ∈ [.ei, .di]) ∧
    (p.im = q.im ∨ ∃ y, i = .im0 y ∨ i = .im1 y ∨ i = .im2 y) ∧
    (p.i = q.i ∨ i = .ldIA) ∧
    (p.r = q.r ∨ i = .ldRA) ∧
    (p.af' = q.af' ∨ i = .exAfAf) ∧
    ((p.b' = q.b' ∧ p.c' = q.c' ∧ p.d' = q.d' ∧ p.e' = q.e' ∧ p.h' = q.h' ∧ p.l' = q.l') ∨ i = .exx) ∧
    (p.halted = q.halted ∨ i = .halt) ∧
    (p.intBlock = q.intBlock ∨ i = .ei ∨ ∃ f, i = .ddRedundant f ∨ i = .fdRedundant f) := by
  unfold systemWrite
  split <;> simp [Cpu.system]

/-- Settles O13: the system part after an instruction is what `systemWrite` makes of it, whose arms are the listed writers;
those the statement names without their core stand in no escape. -/
theorem systemStateWriters : Obligations.SystemStateWriters := by
  unfold Obligations.SystemStateWriters
  intro i s t h
  have hw := systemWrite_writers (Claims.core i) s.cpu
  rw [← exec_system h] at hw
  obtain ⟨hiff1, hiff2, him, hi, hr, haf, hbank, hhalted, hblock⟩ := hw
  exact ⟨hiff1.imp_right (Or.imp_right fun ⟨y, hy⟩ => ⟨y, eq_of_core_eq h hy rfl⟩), hiff2,
    him.imp_right fun ⟨y, hy⟩ =>
      ⟨y, hy.imp (eq_of_core_eq h · rfl) (Or.imp (eq_of_core_eq h · rfl) (eq_of_core_eq h · rfl))⟩,
    hi.imp_right (eq_of_core_eq h · rfl), hr.imp_right (eq_of_core_eq h · rfl), haf, hbank, hhalted,
    hblock.imp_right (Or.imp_right fun ⟨f, hf⟩ => ⟨f, hf.imp (eq_of_core_eq h · rfl) (eq_of_core_eq h · rfl)⟩)⟩

/-! ## The step (R160, R163) -/

/-- While no frame boundary is due, a step runs the instruction that the fetched bytes decode to. -/
theorem step_of_decode {s : State} {i : Instr} (hdue : s.frameDue = false) (hi : decode s.fetch.1 = .ok i) :
    step s = runInstr i s.fetch.2 := by
  simp [step, hdue, State.instrStep, hi]

/-- The state an instruction starts from, in both refresh modes. -/
theorem State.begin_eq (s : State) (i : Instr) :
    s.begin i =
      { s with
        cpu :=
          { s.cpu with
            pc := s.cpu.pc + BitVec.ofNat 16 i.length
            intBlock := false
            rlo :=
              match s.params.refreshMode with
              | .perStepAfter => s.cpu.rlo
              | .perM1 => s.cpu.rlo + BitVec.ofNat 7 i.m1Count } } := by
  unfold State.begin
  cases s.params.refreshMode <;> rfl

/-- The refresh update at the end of a step, in both refresh modes. -/
theorem State.finish_eq (s : State) :
    s.finish =
      { s with
        cpu :=
          { s.cpu with
            rlo :=
              match s.params.refreshMode with
              | .perStepAfter => s.cpu.rlo + 1
              | .perM1 => s.cpu.rlo } } := by
  unfold State.finish
  cases s.params.refreshMode <;> rfl

/-- Settles O5: the step is the fetch, `begin`, the instruction's meaning and `finish`. -/
theorem stepRunsDecodedInstruction : Obligations.StepRunsDecodedInstruction := by
  unfold Obligations.StepRunsDecodedInstruction
  intro s i hdue hi _ u v
  have hv : v = u.begin i := (u.begin_eq i).symm
  rw [step_of_decode hdue hi, runInstr, hv]
  cases exec i (u.begin i) with
  | next t => exact congrArg Host.Outcome.next t.finish_eq
  | fault r => rfl
  | refused r => rfl

/-! ## HALT (R45, R326, R577) -/

/-- What a step at a HALT opcode makes of a state whose mapping the fetch leaves. -/
def State.spin (s : State) : State :=
  { s with
    cpu := { s.cpu with halted := true, intBlock := false, rlo := s.cpu.rlo + 1, clk := s.cpu.clk + s.tstates .halt } }

/-- HALT moves PC back over its one byte and counts one opcode fetch, in both refresh modes. -/
theorem runInstr_halt (s : State) : runInstr .halt s = .next s.spin := by
  have hexec (u : State) : exec .halt u = .next (((u.setPc (u.cpu.pc - 1)).setHalted true).charge .halt) := rfl
  have hlen : Instr.halt.length = 1 := rfl
  have hm1 : Instr.halt.m1Count = 1 := rfl
  rw [runInstr, hexec]
  cases hm : s.params.refreshMode <;>
    simp [State.finish_eq, State.begin_eq, State.spin, State.tstates, hm, hlen, hm1]

/-- The step at HALT changes the four cells named. -/
theorem State.spin_only (s : State) : Claims.Only [.halted, .intBlock, .rlo, .clk] s s.spin := by
  refine ⟨?_, rfl⟩
  constructor <;> simp [State.spin]

/-- Settles O24: the step at a HALT opcode leaves `spin`. -/
theorem haltSpins : Obligations.HaltSpins := by
  unfold Obligations.HaltSpins
  intro s hdue hi hmap
  refine ⟨s.spin, ?_, rfl, rfl, rfl, rfl, rfl, s.spin_only⟩
  rw [step_of_decode hdue hi, hmap, runInstr_halt]

/-! ## The interrupt shadow (R46, R531) -/

/-- EI and the redundant prefixes set `int_block`, no other instruction does. -/
theorem systemWrite_intBlock {u : Cpu} (h : u.intBlock = false) (i : Instr) :
    (systemWrite i u).intBlock = true ↔ i = .ei ∨ ∃ f, i = .ddRedundant f ∨ i = .fdRedundant f := by
  unfold systemWrite
  split <;> simp_all

/-- `int_block` after an instruction's step: set exactly by EI and the redundant prefixes, since the step clears it first. -/
theorem runInstr_intBlock {i : Instr} {s t : State} (h : runInstr i s = .next t) :
    t.cpu.intBlock = true ↔ Claims.core i = .ei ∨ ∃ f, i = .ddRedundant f ∨ i = .fdRedundant f := by
  unfold runInstr at h
  split at h
  case h_1 u hu =>
    cases h
    have hclear : (s.begin i).cpu.intBlock = false := by rw [State.begin_eq]
    have hset : u.cpu.intBlock = (systemWrite (Claims.core i) (s.begin i).cpu).intBlock :=
      congrArg SystemPart.intBlock (exec_system hu)
    rw [State.finish_eq, hset, systemWrite_intBlock hclear]
    have hcore (j : Instr) (hj : Claims.core j = j) (he : j.escapable = false) : Claims.core i = j ↔ i = j :=
      ⟨(eq_of_core_eq hu · he), fun hi => hi ▸ hj⟩
    simp only [hcore (.ddRedundant _) rfl rfl, hcore (.fdRedundant _) rfl rfl]
  case h_2 => cases h
  case h_3 => cases h

/-- Settles O23: past the frame's end the boundary is due unless `int_block` holds it back. -/
theorem interruptShadow : Obligations.InterruptShadow := by
  unfold Obligations.InterruptShadow
  intro s i t hdue hi hstep hshadow hclk
  have hparams : t.params = s.params := (State.fixed_eq_iff.mp (step_fixed hstep)).1
  rw [step_of_decode hdue hi] at hstep
  rw [← runInstr_intBlock hstep]
  simp [State.frameDue, hparams, hshadow, hclk]

/-! ## Reset (R51, R110, R601) -/

/-- Every AY register is 0 after reset. -/
theorem Ay.reset_reg (seed : BitVec 17) (r : BitVec 4) : (Ay.reset seed).reg r = 0 := by
  revert r
  exact (by decide : ∀ r : BitVec 4, (Ay.reset 0).reg r = 0)

/-- Right after its reset the controller's status shows no bit but not-ready (R601). -/
theorem Fdc.statusByte_afterReset {f : Fdc} (hk : f.statusKind = .afterReset) (hs : f.status = 0) (hd : f.system = 0) :
    f.statusByte = if f.drives[0].media = none then 0x80 else 0x00 := by
  have hready : f.ready = f.drives[0].media.isSome := by simp [Fdc.ready, Fdc.drive, Fdc.driveIndex, hd]
  simp only [Fdc.statusByte, hk, hs, hready]
  cases f.drives[0].media <;> simp

/-- After construction with nothing loaded the machine is in the reset state (R51, R110, R601). -/
theorem resetWith_resetState (p : Params) : Claims.ResetState (State.resetWith p) := by
  have hstatus := Fdc.statusByte_afterReset (f := (State.resetWith p).fdc) rfl rfl rfl
  have haf : (State.resetWith p).af = 0xFFFF := (by decide : Word.ofBytes 0xFF 0xFF = 0xFFFF)
  have hreg : ∀ r, (State.resetWith p).ay.reg r = 0 := Ay.reset_reg _
  simp only [Claims.ResetState, hstatus, haf, hreg]
  cases hv : p.variant <;>
    simp [State.resetWith, hv, resetRom, State.rReg, Cpu.reset, Ula.reset, Ay.reset, Tone.reset, Fdc.reset,
      Fdc.busy, Tape.reset]

/-- A later host reset leaves the machine in the reset state (R51, R110, R600, R601). -/
theorem State.hostReset_resetState (s : State) : Claims.ResetState s.hostReset := by
  have hstatus := Fdc.statusByte_afterReset (f := s.hostReset.fdc) rfl rfl rfl
  have haf : s.hostReset.af = 0xFFFF := (by decide : Word.ofBytes 0xFF 0xFF = 0xFFFF)
  have hreg : ∀ r, s.hostReset.ay.reg r = 0 := Ay.reset_reg _
  simp only [Claims.ResetState, hstatus, haf, hreg]
  cases hv : s.params.variant <;>
    simp [State.hostReset, hv, resetRom, State.rReg, resetCpu, Cpu.reset, Ula.reset, Ay.reset, Tone.reset,
      Fdc.machineReset, Fdc.controllerReset, Fdc.busy, Tape.machineReset, Tape.halt]

/-- A machine reset keeps a drive's head position and media. -/
theorem Fdc.machineReset_drive (f : Fdc) (k : Fin 4) :
    f.machineReset.drives[k].head = f.drives[k].head ∧ f.machineReset.drives[k].media = f.drives[k].media := by
  simp [Fdc.machineReset]

/-- Settles O9: both resets leave the reset state, and the later one keeps the heads and the media, memory and the tape. -/
theorem resetValues : Obligations.ResetValues := by
  unfold Obligations.ResetValues
  refine ⟨fun p => ⟨resetWith_resetState p, ?_, rfl, rfl, rfl⟩, fun s =>
    ⟨s.hostReset_resetState, rfl, rfl, rfl, rfl, s.fdc.machineReset_drive⟩⟩
  exact (by decide : ∀ k : Fin 4, Fdc.reset.drives[k].media = none)

end Sys2Proof.Machine
end

section
/-! PROOFS. The step goes on (spec/20_memory.md R103; spec/30_encoding.md R155): every four bytes decode to a well-formed
instruction, a well-formed instruction runs, and a frame boundary stops only at an IM 0 bus byte. From these: O8. -/

namespace Sys2Proof

/-! ## Fields (R132) -/

theorem opX_eq_three {op : Byte} (h0 : opX op ≠ 0) (h1 : opX op ≠ 1) (h2 : opX op ≠ 2) : opX op = 3 := by
  revert op
  decide

/-- The only code that names no register is that of the memory operand (R35). -/
theorem opY_of_memory {op : Byte} (h : reg8? (opY op) = none) : opY op = 6 := by
  revert op
  decide

theorem opZ_of_memory {op : Byte} (h : reg8? (opZ op) = none) : opZ op = 6 := by
  revert op
  decide

theorem opQ_eq_one {op : Byte} (h : opQ op ≠ 0) : opQ op = 1 := Nat.mod_two_ne_zero.mp h

theorem isPrefixByte_eq_false {b : Byte} :
    Machine.isPrefixByte b = false ↔ b ≠ 0xCB ∧ b ≠ 0xED ∧ b ≠ 0xDD ∧ b ≠ 0xFD := by
  simp [Machine.isPrefixByte, and_assoc]

theorem isPrefixByte_of_prefixByte? {b : Byte} (h : prefixByte? b = none) (hcb : b ≠ 0xCB) :
    Machine.isPrefixByte b = false := by
  revert b
  decide

/-- The only opcodes for which the base table has no row are the prefixes (R157). -/
theorem base3_fields_of_not_prefix {op : Byte} (h : Machine.isPrefixByte op = false) (hx : opX op = 3) :
    ¬(opZ op = 3 ∧ opY op = 1) ∧ ¬(opZ op = 5 ∧ opQ op ≠ 0 ∧ opP op ≠ 0) := by
  revert op
  decide

/-! ## Tables without operands -/

theorem aluR_wellFormed (y : Nat) (r : Reg8) : (aluR y r).wellFormed = true := by
  unfold aluR
  split <;> rfl

theorem aluMHl_wellFormed (y : Nat) : (aluMHl y).wellFormed = true := by
  unfold aluMHl
  split <;> rfl

theorem aluN_wellFormed (y : Nat) (n : Byte) : (aluN y n).wellFormed = true := by
  unfold aluN
  split <;> rfl

theorem aluXh_wellFormed (x : IdxReg) (y : Nat) (h : Half) : (aluXh x y h).wellFormed = true := by
  unfold aluXh
  split <;> rfl

theorem aluMXd_wellFormed (x : IdxReg) (y : Nat) (d : Byte) : (aluMXd x y d).wellFormed = true := by
  unfold aluMXd
  cases x <;> split <;> rfl

theorem decodeBase1_wellFormed (op : Byte) : (decodeBase1 op).wellFormed = true := by
  unfold decodeBase1
  split <;> rfl

theorem decodeCB_wellFormed (op : Byte) : (decodeCB op).wellFormed = true := by
  revert op
  decide

theorem decodeED7_wellFormed {op : Byte} (hx : opX op = 1) (h : ∀ z < 7, opZ op ≠ z) : (decodeED7 op).wellFormed = true := by
  revert op
  decide

theorem decodeIM_wellFormed (op : Byte) : (decodeIM op).wellFormed = true := by
  revert op
  decide

theorem decodeBlock_wellFormed {op : Byte} (hx : opX op = 2) : (decodeBlock op).wellFormed = true := by
  revert op
  decide

theorem retn_wellFormed {op : Byte} (hy : opY op ≠ 1) : (Instr.retn (opYBits op)).wellFormed = true := by
  revert op
  decide

theorem nopStar_wellFormed {op : Byte} (h1 : opX op ≠ 1) (h2 : opX op ≠ 2) : (Instr.nopStar op).wellFormed = true := by
  revert op
  decide

theorem rotMXd_wellFormed (x : IdxReg) (o : Rot) (d : Byte) : (rotMXd x o d).wellFormed = true := by
  cases x <;> cases o <;> rfl

theorem decodeXCB_wellFormed (x : IdxReg) (d op : Byte) : (decodeXCB x d op).wellFormed = true := by
  unfold decodeXCB
  dsimp only
  split
  · exact rotMXd_wellFormed ..
  all_goals cases x <;> rfl

theorem decodeIndexed3_wellFormed {x : IdxReg} {op : Byte} {i : Instr} (h : decodeIndexed3 x op = some i) :
    i.wellFormed = true := by
  unfold decodeIndexed3 at h
  split at h <;> cases h <;> cases x <;> rfl

/-! ## Every four bytes decode (R155) -/

/-- The answer is an instruction with the property `P`. -/
def Answers (P : Instr → Bool) (r : Except DecodeError Instr) : Prop := ∃ i, r = .ok i ∧ P i = true

theorem Answers.ok {P : Instr → Bool} {i : Instr} (h : P i = true) : Answers P (.ok i) := ⟨i, rfl, h⟩

theorem Answers.arg1 {P : Instr → Bool} {m : Byte} {rest : List Byte} {k : Byte → Instr} (h : P (k m) = true) :
    Answers P (arg1 (m :: rest) k) := .ok h

theorem Answers.arg2 {P : Instr → Bool} {m n : Byte} {rest : List Byte} {k : Byte → Byte → Instr} (h : P (k m n) = true) :
    Answers P (arg2 (m :: n :: rest) k) := .ok h

theorem Answers.argW {P : Instr → Bool} {m n : Byte} {rest : List Byte} {k : Word → Instr}
    (h : P (k (Word.ofBytes n m)) = true) : Answers P (argW (m :: n :: rest) k) := .ok h

section
variable (m n : Byte) (rest : List Byte)

theorem decodeBase0_wellFormed (op : Byte) : Answers Instr.wellFormed (decodeBase0 op (m :: n :: rest)) := by
  unfold decodeBase0
  repeat' split
  all_goals exact .ok rfl

theorem decodeBase3_wellFormed {op : Byte} (hp : Machine.isPrefixByte op = false) (hx : opX op = 3) :
    Answers Instr.wellFormed (decodeBase3 op (m :: n :: rest)) := by
  obtain ⟨hcb, hxy⟩ := base3_fields_of_not_prefix hp hx
  unfold decodeBase3
  split
  case h_4 hz =>
    split
    case h_2 hy => exact absurd ⟨hz, hy⟩ hcb
    all_goals exact .ok rfl
  case h_6 hz =>
    split
    case h_3 hq0 hp0 => exact absurd ⟨hz, hq0, hp0⟩ hxy
    all_goals exact .ok rfl
  case h_7 => exact .ok (aluN_wellFormed ..)
  case h_2 => split <;> exact .ok rfl
  all_goals exact .ok rfl

theorem decodeBase_wellFormed {op : Byte} (hp : Machine.isPrefixByte op = false) :
    Answers Instr.wellFormed (decodeBase op (m :: n :: rest)) := by
  unfold decodeBase
  split
  case h_1 => exact decodeBase0_wellFormed m n rest op
  case h_2 => exact .ok (decodeBase1_wellFormed op)
  case h_3 =>
    split
    · exact .ok (aluR_wellFormed ..)
    · exact .ok (aluMHl_wellFormed ..)
  case h_4 h0 h1 h2 => exact decodeBase3_wellFormed m n rest hp (opX_eq_three h0 h1 h2)

theorem decodeED_wellFormed (op : Byte) : Answers Instr.wellFormed (decodeED op (m :: n :: rest)) := by
  unfold decodeED
  split
  case h_1 hx =>
    split
    case h_6 =>
      split
      · exact .ok rfl
      · exact .ok (retn_wellFormed ‹_›)
    case h_7 => exact .ok (decodeIM_wellFormed op)
    case h_8 h0 h1 h2 h3 h4 h5 h6 => exact .ok (decodeED7_wellFormed hx (by grind))
    case h_5 => exact .ok rfl
    all_goals split <;> exact .ok rfl
  case h_2 hx => exact .ok (decodeBlock_wellFormed hx)
  case h_3 h1 h2 => exact .ok (nopStar_wellFormed h1 h2)

/-! ### What an index prefix changes (R150) and what it escapes into (R151) -/

theorem decodeIndexed_wellFormed {x : IdxReg} {op : Byte} {r : Except DecodeError Instr}
    (h : decodeIndexed x op (m :: n :: rest) = some r) : Answers Instr.wellFormed r := by
  unfold decodeIndexed at h
  split at h
  case h_1 =>
    unfold decodeIndexed0 at h
    repeat' split at h
    all_goals cases h
    all_goals cases x <;> exact .ok rfl
  case h_2 =>
    unfold decodeIndexed1 at h
    repeat' split at h
    case h_1.isTrue hhalf => cases h; cases x <;> exact .ok hhalf
    all_goals cases h
    all_goals cases x <;> exact .ok rfl
  case h_3 =>
    unfold decodeIndexed2 at h
    split at h
    · cases h; exact .ok (aluXh_wellFormed ..)
    · cases h; exact .arg1 (aluMXd_wellFormed ..)
    · cases h
  case h_4 =>
    obtain ⟨i, hi, rfl⟩ := Option.map_eq_some_iff.mp h
    exact .ok (decodeIndexed3_wellFormed hi)

theorem regPairOf_ne_hl {p : Nat} (h : p ≠ 2) : (regPairOf p != .hl) = true := by
  unfold regPairOf
  split
  case h_3 => exact absurd rfl h
  all_goals rfl

theorem stackPairOf_ne_hl {p : Nat} (h : p ≠ 2) : (stackPairOf p != .hl) = true := by
  unfold stackPairOf
  split
  case h_3 => exact absurd rfl h
  all_goals rfl

/-- A register code that names no index half is a register that an index prefix leaves alone. -/
theorem plain_of_reg8 {k : Nat} {r : Reg8} (hr : reg8? k = some r) (hh : ∀ f, half? k ≠ some f) : r.plain = true := by
  unfold reg8? at hr
  split at hr <;> cases hr
  case h_5 => exact absurd rfl (hh .hi)
  case h_6 => exact absurd rfl (hh .lo)
  all_goals rfl

theorem decodeBase0_escapable {x : IdxReg} {op : Byte} (h : decodeIndexed0 x op (m :: n :: rest) = none) :
    Answers Instr.escapable (decodeBase0 op (m :: n :: rest)) := by
  unfold decodeBase0
  split
  case h_1 => split <;> exact .ok rfl
  case h_2 hz =>
    split
    case h_1 hq => exact .argW (regPairOf_ne_hl fun hp => by simp [decodeIndexed0, hz, hq, hp] at h)
    case h_2 hq => simp [decodeIndexed0, hz, opQ_eq_one hq] at h
  case h_3 hz =>
    split
    case h_3 hq hp => simp [decodeIndexed0, hz, hq, hp] at h
    case h_7 hp hq => simp [decodeIndexed0, hz, opQ_eq_one hq, hp] at h
    all_goals exact .ok rfl
  case h_4 hz =>
    split
    case h_1 hq => exact .ok (regPairOf_ne_hl fun hp => by simp [decodeIndexed0, hz, hq, hp] at h)
    case h_2 hq => exact .ok (regPairOf_ne_hl fun hp => by simp [decodeIndexed0, hz, opQ_eq_one hq, hp] at h)
  case h_8 => split <;> exact .ok rfl
  case h_5 hz =>
    split
    case h_1 r hr => exact .ok (plain_of_reg8 hr fun f hf => by simp [decodeIndexed0, hz, hf] at h)
    case h_2 hm => simp [decodeIndexed0, hz, opY_of_memory hm, half?] at h
  case h_6 hz =>
    split
    case h_1 r hr => exact .ok (plain_of_reg8 hr fun f hf => by simp [decodeIndexed0, hz, hf] at h)
    case h_2 hm => simp [decodeIndexed0, hz, opY_of_memory hm, half?] at h
  case h_7 hz =>
    split
    case h_1 r hr => exact .arg1 (plain_of_reg8 hr fun f hf => by simp [decodeIndexed0, hz, hf] at h)
    case h_2 hm => simp [decodeIndexed0, hz, opY_of_memory hm, half?] at h

/-- A register code under an index prefix is a half for H and L, and the register itself otherwise (R218). -/
theorem hreg_of_reg8 {k : Nat} {r : Reg8} (h : reg8? k = some r) : ∃ t, hreg? k = some t ∧ t.isHalf = !r.plain := by
  unfold reg8? at h
  split at h <;> cases h <;> exact ⟨_, rfl, rfl⟩

theorem decodeBase1_escapable {x : IdxReg} {op : Byte} (h : decodeIndexed1 x op (m :: n :: rest) = none) :
    (decodeBase1 op).escapable = true := by
  unfold decodeBase1
  split
  case h_1 t r ht hr =>
    obtain ⟨t', ht', htp⟩ := hreg_of_reg8 ht
    obtain ⟨r', hr', hrp⟩ := hreg_of_reg8 hr
    simpa [decodeIndexed1, ht, hr, ht', hr', htp, hrp, Instr.escapable] using h
  case h_2 t ht hm => simp [decodeIndexed1, ht, hm] at h
  case h_3 r hm hr => simp [decodeIndexed1, hm, hr] at h
  case h_4 => rfl

theorem aluR_escapable {y : Nat} {r : Reg8} (h : r.plain = true) : (aluR y r).escapable = true := by
  unfold aluR
  split <;> exact h

theorem aluN_escapable (y : Nat) (n : Byte) : (aluN y n).escapable = true := by
  unfold aluN
  split <;> rfl

/-- The rows of `x = 3` that an index prefix changes are those of HL: its stack operations, EX (SP),HL, JP (HL) and LD SP,HL. -/
theorem fields_of_indexed3 {x : IdxReg} {op : Byte} (h : decodeIndexed3 x op = none) :
    (opZ op = 1 → opQ op = 0 → opP op ≠ 2) ∧ (opZ op = 1 → opQ op ≠ 0 → opP op = 0 ∨ opP op = 1) ∧
      (opZ op = 3 → opY op ≠ 4) ∧ (opZ op = 5 → opQ op = 0 → opP op ≠ 2) := by
  cases x <;> revert op <;> decide

theorem decodeBase3_escapable {x : IdxReg} {op : Byte} (hp : Machine.isPrefixByte op = false) (hx : opX op = 3)
    (h : decodeIndexed3 x op = none) : Answers Instr.escapable (decodeBase3 op (m :: n :: rest)) := by
  obtain ⟨hcb, hxy⟩ := base3_fields_of_not_prefix hp hx
  obtain ⟨hpop, hjp, hex, hpush⟩ := fields_of_indexed3 h
  unfold decodeBase3
  split
  case h_2 hz =>
    split
    case h_1 hq => exact .ok (stackPairOf_ne_hl (hpop hz hq))
    case h_4 hp2 hq => have := hjp hz hq; omega
    case h_5 hq hp0 hp1 hp2 => exact ((hjp hz hq).elim hp0 hp1).elim
    all_goals exact .ok rfl
  case h_4 hz =>
    split
    case h_2 hy => exact absurd ⟨hz, hy⟩ hcb
    case h_5 hy => exact absurd hy (hex hz)
    all_goals exact .ok rfl
  case h_6 hz =>
    split
    case h_1 hq => exact .ok (stackPairOf_ne_hl (hpush hz hq))
    case h_3 hq0 hp0 => exact absurd ⟨hz, hq0, hp0⟩ hxy
    all_goals exact .ok rfl
  case h_7 => exact .arg1 (aluN_escapable ..)
  all_goals exact .ok rfl

/-- A byte that an index prefix neither changes nor repeats is a base opcode it escapes into. -/
theorem decodeBase_escapable {x : IdxReg} {op : Byte} (hp : Machine.isPrefixByte op = false)
    (h : decodeIndexed x op (m :: n :: rest) = none) : Answers Instr.escapable (decodeBase op (m :: n :: rest)) := by
  unfold decodeBase
  split
  case h_1 hx => exact decodeBase0_escapable m n rest (by simpa [decodeIndexed, hx] using h)
  case h_2 hx => exact .ok (decodeBase1_escapable m n rest (by simpa [decodeIndexed, hx] using h))
  case h_3 hx =>
    simp only [decodeIndexed, hx, decodeIndexed2] at h
    split
    case h_1 r hr => exact .ok (aluR_escapable (plain_of_reg8 hr fun f hf => by simp [hf] at h))
    case h_2 hm => simp [opZ_of_memory hm, half?] at h
  case h_4 h0 h1 h2 =>
    have hx := opX_eq_three h0 h1 h2
    exact decodeBase3_escapable m n rest hp hx (by simpa [decodeIndexed, hx] using h)

/-- What follows an index prefix is a redundant prefix, a changed opcode, or one that escapes (R150 to R153). -/
theorem decodeXY_wellFormed (x : IdxReg) (b : Byte) : Answers Instr.wellFormed (decodeXY x (b :: m :: n :: rest)) := by
  unfold decodeXY
  dsimp only
  split
  case h_1 => exact .ok (by cases x <;> rfl)
  case h_2 hb =>
    split
    case isTrue => exact .arg2 (decodeXCB_wellFormed ..)
    case isFalse hcb =>
      split
      case h_1 hi => exact decodeIndexed_wellFormed m n rest hi
      case h_2 hi =>
        obtain ⟨i, hbase, he⟩ := decodeBase_escapable m n rest (isPrefixByte_of_prefixByte? hb hcb) hi
        rw [hbase]
        exact .ok (by cases x <;> exact he)

end

/-- Every four bytes decode, to a well-formed instruction (R155). -/
theorem decode_wellFormed (b0 b1 b2 b3 : Byte) : Answers Instr.wellFormed (decode [b0, b1, b2, b3]) := by
  unfold decode
  dsimp only
  split
  case isTrue => exact .arg1 (decodeCB_wellFormed b1)
  case isFalse hcb =>
    split
    case isTrue => exact decodeED_wellFormed b2 b3 [] b1
    case isFalse hed =>
      split
      case isTrue => exact decodeXY_wellFormed b2 b3 [] .ix b1
      case isFalse hdd =>
        split
        case isTrue => exact decodeXY_wellFormed b2 b3 [] .iy b1
        case isFalse hfd => exact decodeBase_wellFormed b1 b2 [b3] (isPrefixByte_eq_false.mpr ⟨hcb, hed, hdd, hfd⟩)

end Sys2Proof

namespace Sys2Proof.Machine

/-- A well-formed instruction runs from every state: only an ill-formed escape is refused. -/
theorem exec_goesOn {i : Instr} (hi : i.wellFormed = true) (s : State) : ∃ t, exec i s = .next t := by
  have hescape {row j : Instr} (he : j.escapable = true) : ∃ t, escapeInto row j s = .next t := by
    rw [escapeInto, if_pos he, execPlain_eq_exec he]
    obtain ⟨-, -, t, ht, -⟩ | ⟨k, rfl | rfl⟩ := exec_charged_or_escape j s
    · exact ⟨_, by rw [ht]⟩
    · cases he
    · cases he
  obtain ⟨-, -, t, ht, -⟩ | ⟨j, rfl | rfl⟩ := exec_charged_or_escape i s
  · exact ⟨t, ht⟩
  · exact hescape (row := .ddEscape j) hi
  · exact hescape (row := .fdEscape j) hi

theorem runInstr_goesOn {i : Instr} (hi : i.wellFormed = true) (s : State) : ∃ t, runInstr i s = .next t := by
  obtain ⟨t, ht⟩ := exec_goesOn hi (s.begin i)
  exact ⟨t.finish, by rw [runInstr, ht]⟩

/-- The four fetched bytes decode to a well-formed instruction, which runs (R103, R155). -/
theorem State.instrStep_goesOn (s : State) : ∃ t, s.instrStep = .next t := by
  obtain ⟨i, hd, hi⟩ : Answers Instr.wellFormed (decode s.fetch.1) := decode_wellFormed ..
  obtain ⟨t, ht⟩ := runInstr_goesOn hi s.fetch.2
  exact ⟨t, by simp only [State.instrStep, hd, ht]⟩

/-- The interrupt check stops exactly at an accepted mode 0 interrupt whose bus byte is no RST opcode (R533). -/
theorem State.interruptCheck_cases (s : State) :
    (s.interruptCheck = .refused .im0BusByteNotRst ∧ s.cpu.iff1 = true ∧ s.cpu.im = .im0 ∧
        s.params.intBusByte &&& 0xC7 ≠ 0xC7) ∨
      ((∃ t, s.interruptCheck = .next t) ∧
        ¬(s.cpu.iff1 = true ∧ s.cpu.im = .im0 ∧ s.params.intBusByte &&& 0xC7 ≠ 0xC7)) := by
  unfold State.interruptCheck State.acceptInt
  split
  case isFalse hoff => exact .inr ⟨⟨s, rfl⟩, by simp [hoff]⟩
  case isTrue hon =>
    split
    case h_1 him =>
      split
      case isTrue hb => exact .inr ⟨⟨_, rfl⟩, fun h => h.2.2 hb⟩
      case isFalse hb => exact .inl ⟨rfl, hon, him, hb⟩
    case h_2 him => exact .inr ⟨⟨_, rfl⟩, by simp [him]⟩
    case h_3 him => exact .inr ⟨⟨_, rfl⟩, by simp [him]⟩

/-- Settles O8: an instruction's step always goes on, and a frame boundary stops where its interrupt check does. -/
theorem stepGoesOn : Obligations.StepGoesOn := by
  unfold Obligations.StepGoesOn
  intro s
  unfold State.StopsAtBusByte State.Safe step
  cases hdue : s.frameDue with
  | false => simpa using s.instrStep_goesOn
  | true =>
    obtain ⟨hr, hstop⟩ | ⟨⟨t, ht⟩, hgo⟩ := s.interruptCheck_cases
    · have hend : s.frameEnd = .refused .im0BusByteNotRst := by simp [State.frameEnd, hr]
      exact ⟨fun _ => hend, fun h => absurd ⟨rfl, hstop⟩ h⟩
    · have hend : s.frameEnd = .next t.devicesFrameEnd.rebase.runPending := by simp [State.frameEnd, ht]
      exact ⟨fun h => absurd h.2 hgo, fun _ => ⟨_, hend⟩⟩

end Sys2Proof.Machine
end

section
/-! PROOFS. Who writes memory and who reaches the devices (spec/20_memory.md R86, R87, R99, R100): an instruction stores only if
it is a storing one, and reaches the mapping and the devices only through its port. From these: O14. -/

namespace Sys2Proof.Machine

/-! ## What instructions reach through ports only -/

/-- The part of the machine that an instruction reaches through a port only: the mapping, the devices, the ULA's port latches,
and the model's own queues, counters and parameters. -/
structure Bus where
  rom : RomKind
  ram3 : BitVec 3
  latch : Byte
  ay : Ay
  fdc : Fdc
  tape : Tape
  border : BitVec 3
  mic : Bool
  beeper : Bool
  pending : List HostAction
  answers : List HostAnswer
  draws : Nat
  params : Params

/-- The bus part of a state. -/
def State.bus (s : State) : Bus where
  rom := s.rom
  ram3 := s.ram3
  latch := s.latch
  ay := s.ay
  fdc := s.fdc
  tape := s.tape
  border := s.ula.border
  mic := s.ula.mic
  beeper := s.ula.beeper
  pending := s.pending
  answers := s.answers
  draws := s.draws
  params := s.params

/-- Of the ULA a store moves the raster only (R87). -/
@[simp] theorem State.writeByte_border (s : State) (a : Word) (v : Byte) : (s.writeByte a v).ula.border = s.ula.border := by
  rw [State.writeByte_ula]
  split <;> rfl

@[simp] theorem State.writeByte_mic (s : State) (a : Word) (v : Byte) : (s.writeByte a v).ula.mic = s.ula.mic := by
  rw [State.writeByte_ula]
  split <;> rfl

@[simp] theorem State.writeByte_beeper (s : State) (a : Word) (v : Byte) : (s.writeByte a v).ula.beeper = s.ula.beeper := by
  rw [State.writeByte_ula]
  split <;> rfl

/-! ## The canonical form of the memory -/

/-- The memory is canonical and lists only addresses that exist. -/
def Memory.Ok (m : Memory) : Prop := Memory.wf m = true ∧ Memory.below (pageCount * pageSize) m = true

/-- A store keeps the memory canonical (R87). -/
@[simp] theorem State.ok_write (s : State) {m : Memory} (a : Word) (v : Byte) (h : m.Ok) :
    (Memory.write m (s.writeLoc a) v).Ok := ⟨Memory.wf_write _ v h.1, Memory.below_write v h.2 (s.writeLoc_lt a)⟩

/-! ## What an instruction does to memory and to the bus -/

@[simp] theorem State.repeatBlock_mem (s : State) (i : Instr) (again : Bool) : (s.repeatBlock i again).mem = s.mem := by
  unfold State.repeatBlock
  split <;> rfl

@[simp] theorem State.repeatIo_mem (s : State) (i : Instr) : (s.repeatIo i).mem = s.mem := by
  unfold State.repeatIo
  split <;> rfl

@[simp] theorem State.repeatBlock_bus (s : State) (i : Instr) (again : Bool) : (s.repeatBlock i again).bus = s.bus := by
  unfold State.repeatBlock
  split <;> simp [State.bus, State.repeatPc]

@[simp] theorem State.repeatIo_bus (s : State) (i : Instr) : (s.repeatIo i).bus = s.bus := by
  unfold State.repeatIo
  split <;> simp [State.bus, State.repeatPc]

/-- From `s` to `t` memory is written only by a storing instruction, and stays canonical. -/
def MemoryEffect (i : Instr) (s t : State) : Prop :=
  (Claims.storesMemory i = false → t.mem = s.mem) ∧ (Memory.Ok s.mem → Memory.Ok t.mem)

/-- From `s` to `t` the bus is reached only by a port instruction, by one read of a port or one write. -/
def BusEffect (i : Instr) (s t : State) : Prop :=
  t.bus = s.bus ∨
    Claims.usesPort i = true ∧
      ((∃ p, t.bus = (s.portRead p).bus) ∨
        ∃ (u : State) (p : Word) (v : Byte), u.mem = s.mem ∧ u.bus = s.bus ∧ t.bus = (u.ioWrite p v).bus)

theorem MemoryEffect.of_stores {i : Instr} {s t : State} (hi : Claims.storesMemory i = true)
    (h : Memory.Ok s.mem → Memory.Ok t.mem) : MemoryEffect i s t := ⟨fun hf => absurd (hi.symm.trans hf) (by decide), h⟩

@[simp] theorem State.setA_bus (s : State) (v : Byte) : (s.setA v).bus = s.bus := rfl
@[simp] theorem State.setF_bus (s : State) (v : Byte) : (s.setF v).bus = s.bus := rfl
@[simp] theorem State.setHl_bus (s : State) (v : Word) : (s.setHl v).bus = s.bus := rfl
@[simp] theorem State.setMemptr_bus (s : State) (v : Word) : (s.setMemptr v).bus = s.bus := rfl
@[simp] theorem State.charge_bus (s : State) (i : Instr) : (s.charge i).bus = s.bus := rfl
@[simp] theorem State.setReg8_bus (s : State) (r : Reg8) (v : Byte) : (s.setReg8 r v).bus = s.bus := by cases r <;> rfl

/-- A block input reaches the bus by its read of port BC (R483). -/
theorem State.blockIn_bus (s : State) (up : Bool) : (s.blockIn up).bus = (s.portRead s.bc).bus := by
  simp [State.blockIn, State.stepHl, State.bus]

/-- A block output reaches the bus by its write to port BC, after B has counted (R490). -/
theorem State.blockOut_bus (s : State) (up : Bool) :
    (s.blockOut up).bus =
      ((s.setB (s.cpu.b - 1)).ioWrite (s.setB (s.cpu.b - 1)).bc (s.readByte s.hl)).bus := by
  simp [State.blockOut, State.stepHl]

/-- A port instruction reads or writes one port, and the block inputs store the byte read. -/
theorem exec_effect_of_usesPort {i : Instr} (hi : Claims.usesPort i = true)
    (he : ∀ j, i ≠ .ddEscape j ∧ i ≠ .fdEscape j) (s : State) :
    ∃ t, exec i s = .next t ∧ MemoryEffect i s t ∧ BusEffect i s t := by
  cases i with
  | inAMN n =>
    refine ⟨_, rfl, ?_, .inr ⟨rfl, .inl ⟨s.portAN n, by simp⟩⟩⟩
    simp +contextual [MemoryEffect]
  | inRMC | inFMC =>
    refine ⟨_, rfl, ?_, .inr ⟨rfl, .inl ⟨s.bc, by simp⟩⟩⟩
    simp +contextual [MemoryEffect]
  | ini | ind =>
    refine ⟨_, rfl, .of_stores rfl fun h => ?_, .inr ⟨rfl, .inl ⟨s.bc, by simp [s.blockIn_bus]⟩⟩⟩
    simp [State.blockIn, State.stepHl, h]
  | inir | indr =>
    refine ⟨_, rfl, .of_stores rfl fun h => ?_, .inr ⟨rfl, .inl ⟨s.bc, by simp [s.blockIn_bus]⟩⟩⟩
    simp [State.blockIn, State.stepHl, h]
  | outMNA n =>
    refine ⟨_, rfl, ?_, .inr ⟨rfl, .inr ⟨s, s.portAN n, s.cpu.a, rfl, rfl, by simp⟩⟩⟩
    simp +contextual [MemoryEffect]
  | outMCR r =>
    refine ⟨_, rfl, ?_, .inr ⟨rfl, .inr ⟨s, s.bc, s.reg8 r, rfl, rfl, by simp⟩⟩⟩
    simp +contextual [MemoryEffect]
  | outMC0 =>
    refine ⟨_, rfl, ?_, .inr ⟨rfl, .inr ⟨s, s.bc, s.params.outCZero, rfl, rfl, by simp⟩⟩⟩
    simp +contextual [MemoryEffect]
  | outi | outd =>
    refine ⟨_, rfl, ?_, .inr ⟨rfl, .inr ⟨s.setB (s.cpu.b - 1), (s.setB (s.cpu.b - 1)).bc, s.readByte s.hl, rfl,
      rfl, ?_⟩⟩⟩
    · simp +contextual [MemoryEffect, State.blockOut, State.stepHl]
    · simp [s.blockOut_bus]
  | otir | otdr =>
    refine ⟨_, rfl, ?_, .inr ⟨rfl, .inr ⟨s.setB (s.cpu.b - 1), (s.setB (s.cpu.b - 1)).bc, s.readByte s.hl, rfl,
      rfl, ?_⟩⟩⟩
    · simp +contextual [MemoryEffect, State.blockOut, State.stepHl]
    · simp [s.blockOut_bus]
  | ddEscape j => exact absurd rfl (he j).1
  | fdEscape j => exact absurd rfl (he j).2
  | _ => cases hi

/-- Every instruction but an escape goes on. The port instructions read or write one port; every other one is made of updates
of registers and of stores, and the storing ones store. -/
theorem exec_effect_or_escape (i : Instr) (s : State) :
    (∃ t, exec i s = .next t ∧ MemoryEffect i s t ∧ BusEffect i s t) ∨ ∃ j, i = .ddEscape j ∨ i = .fdEscape j := by
  cases i with
  | ddEscape j => exact .inr ⟨j, .inl rfl⟩
  | fdEscape j => exact .inr ⟨j, .inr rfl⟩
  | inAMN | inRMC | inFMC | ini | ind | inir | indr | outMNA | outMCR | outMC0 | outi | outd | otir | otdr =>
    exact .inl (exec_effect_of_usesPort rfl (by simp) s)
  | jrCc | djnz | callCcNn | retCc | jpCcNn =>
    refine .inl ⟨_, rfl, And.imp_right .inl ?_⟩
    split <;>
      simp +contextual [MemoryEffect, State.bus, Claims.storesMemory, Claims.core, State.call, State.push16]
  | ldir | lddr | cpir | cpdr =>
    refine .inl ⟨_, rfl, And.imp_right (.inl ∘ (State.repeatBlock_bus ..).trans) ?_⟩
    simp +contextual [MemoryEffect, State.bus, Claims.storesMemory, Claims.core, State.blockMove, State.blockCompare,
      State.stepHl, State.stepDe]
  | _ =>
    refine .inl ⟨_, rfl, And.imp_right .inl ?_⟩
    simp +contextual [MemoryEffect, State.bus, Claims.storesMemory, Claims.core, State.writeWord, State.push16, State.storeTop,
      State.storeA, State.storeIndexed, State.call, State.incMem, State.decMem, State.rotMem, State.rotMemReg,
      State.resIndexed, State.setIndexed, State.setDigit, State.stepHl, State.stepDe, State.blockMove, State.blockCompare,
      State.setAF, State.addA, State.adcA, State.subA, State.sbcA, State.andA, State.xorA, State.orA, State.cpA,
      State.incHalf, State.decHalf, State.setHlF, State.addXy, State.rotReg, State.bitIndexed, State.returnFromInterrupt,
      State.loadIndexed, State.moveHalf, State.loadAFrom]

/-- An instruction that runs does what its core does, and then an escape charges for its prefix (R151). -/
theorem exec_core {i : Instr} {s t : State} (h : exec i s = .next t) :
    Claims.core (Claims.core i) = Claims.core i ∧ ∃ m, exec (Claims.core i) s = .next m ∧ ∃ n, t = m.tick n := by
  have hescape {row j : Instr} (h : escapeInto row j s = .next t) :
      Claims.core j = j ∧ ∃ m, exec j s = .next m ∧ ∃ n, t = m.tick n := by
    have he := (escapeInto_charged h).1
    simp only [escapeInto, if_pos he, execPlain_eq_exec he] at h
    obtain ⟨hj, -, m, hm, -⟩ | ⟨k, rfl | rfl⟩ := exec_charged_or_escape j s
    · rw [hm] at h
      cases h
      exact ⟨hj, m, hm, _, rfl⟩
    · cases he
    · cases he
  obtain ⟨hi, -⟩ | ⟨j, rfl | rfl⟩ := exec_charged_or_escape i s
  · rw [hi]
    exact ⟨hi, t, h, 0, by simp [State.tick]⟩
  · exact hescape (row := .ddEscape j) h
  · exact hescape (row := .fdEscape j) h

theorem storesMemory_core {i : Instr} (h : Claims.core (Claims.core i) = Claims.core i) :
    Claims.storesMemory (Claims.core i) = Claims.storesMemory i := by
  unfold Claims.storesMemory
  rw [h]

theorem usesPort_core {i : Instr} (h : Claims.core (Claims.core i) = Claims.core i) :
    Claims.usesPort (Claims.core i) = Claims.usesPort i := by
  unfold Claims.usesPort
  rw [h]

/-- What an instruction that runs does to memory and to the bus. -/
theorem exec_effect {i : Instr} {s t : State} (h : exec i s = .next t) : MemoryEffect i s t ∧ BusEffect i s t := by
  obtain ⟨hi, m, hm, n, rfl⟩ := exec_core h
  obtain ⟨u, hu, hmem, hbus⟩ | ⟨j, hj⟩ := exec_effect_or_escape (Claims.core i) s
  · rw [hm] at hu
    cases hu
    have hm' : (m.tick n).bus = m.bus := rfl
    rw [MemoryEffect, storesMemory_core hi] at hmem
    rw [BusEffect, usesPort_core hi] at hbus
    rw [BusEffect, hm']
    exact ⟨hmem, hbus⟩
  · rcases hj with hj | hj <;> rw [hj] at hi <;> cases hi

/-- Settles O14: an instruction that is no storing one leaves the memory, and one that uses no port leaves the bus; a port
instruction reaches the queues, the counter and the parameters no more than a port access does. -/
theorem memoryAndDeviceWriters : Obligations.MemoryAndDeviceWriters := by
  unfold Obligations.MemoryAndDeviceWriters
  intro i s t h
  obtain ⟨⟨hmem, -⟩, hbus⟩ := exec_effect h
  refine ⟨fun hi k => by rw [hmem hi], fun hi => ?_, ?_⟩
  · have hb := hbus.resolve_right fun hp => absurd (hi.symm.trans hp.1) (by decide)
    exact ⟨congrArg Bus.rom hb, congrArg Bus.ram3 hb, congrArg Bus.latch hb, congrArg Bus.ay hb, congrArg Bus.fdc hb,
      congrArg Bus.tape hb, congrArg Bus.border hb, congrArg Bus.mic hb, congrArg Bus.beeper hb⟩
  · obtain hb | ⟨-, ⟨p, hb⟩ | ⟨u, p, v, -, hu, hb⟩⟩ := hbus <;> simp_all [State.bus]

end Sys2Proof.Machine
end

section
/-! PROOFS. The invariant (spec/20_memory.md R83, R85, R94; spec/60_exceptions.md R565, R566): the drives through every
operation of the controller, the mapping through every change of the latch, and the memory through every store. From these: O10
and O11. -/

namespace Sys2Proof.Machine

/-! ## The drives -/

/-- All four drives of a controller are in order. -/
structure Fdc.Ok (f : Fdc) : Prop where
  drive_at : ∀ k : Fin 4, f.drives[k].Ok

theorem State.drivesOk_iff {s : State} : s.DrivesOk ↔ s.fdc.Ok := ⟨fun h => ⟨h⟩, fun h => h.drive_at⟩

theorem Fdc.Ok.congr {f g : Fdc} (h : f.Ok) (hg : g.drives = f.drives) : g.Ok := ⟨fun k => by
  rw [hg]
  exact h.drive_at k⟩

theorem Fdc.Ok.drive {f : Fdc} (h : f.Ok) : f.drive.Ok := h.drive_at f.driveIndex

/-- One drive put in place of another leaves the drives in order when it is in order itself. -/
theorem Fdc.Ok.set {f g : Fdc} (h : f.Ok) (i : Fin 4) {d : Drive} (hd : d.Ok) (hg : g.drives = f.drives.set i d) : g.Ok := by
  constructor
  intro k
  simp only [hg, Fin.getElem_fin, Vector.getElem_set]
  split
  · exact hd
  · exact h.drive_at k

theorem Fdc.Ok.setDrive {f : Fdc} (h : f.Ok) {d : Drive} (hd : d.Ok) : (f.setDrive d).Ok := h.set f.driveIndex hd rfl

/-- Loading the head changes neither its track nor the image. -/
theorem Drive.Ok.loadHead {d : Drive} (h : d.Ok) (v : Bool) : ({ d with headLoaded := v } : Drive).Ok := h

theorem moveTrack_le (t n : Nat) (inward : Bool) : moveTrack t n inward ≤ 79 := by
  unfold moveTrack
  split <;> exact Nat.min_le_left ..

theorem Fdc.Ok.stepHead {f : Fdc} (h : f.Ok) (n : Nat) (inward : Bool) : (f.stepHead n inward).Ok := by
  have hd := h.setDrive (d := { f.drive with head := moveTrack f.drive.head n inward }) ⟨moveTrack_le .., h.drive.2⟩
  unfold Fdc.stepHead
  dsimp only
  split
  · exact hd.congr rfl
  · exact hd

theorem Fdc.Ok.runSteps {f : Fdc} (h : f.Ok) (t : FdcTiming) : (f.runSteps t).Ok := by
  unfold Fdc.runSteps
  split
  case h_1 pending inward _ =>
    have hs := h.stepHead (min pending (f.elapsed / max 1 t.stepRate)) inward
    dsimp only
    split
    · exact hs.congr rfl
    · unfold Fdc.stepsDone
      split <;> split <;> exact hs.congr rfl
  all_goals exact h

theorem Fdc.Ok.runVerify {f : Fdc} (h : f.Ok) (t : FdcTiming) : (f.runVerify t).Ok := by
  unfold Fdc.runVerify
  split
  case h_1 =>
    split
    · exact (h.setDrive (h.drive.loadHead true)).congr rfl
    · exact h
  all_goals exact h

theorem Fdc.dropTransfer_drives (f : Fdc) : f.dropTransfer.drives = f.drives := by
  unfold Fdc.dropTransfer
  repeat' split
  all_goals rfl

theorem Fdc.delayDone_drives (f : Fdc) (x : Transfer) : (f.delayDone x).drives = f.drives := by
  unfold Fdc.delayDone
  repeat' split
  all_goals rfl

theorem Fdc.runDelay_drives (f : Fdc) : f.runDelay.drives = f.drives := by
  unfold Fdc.runDelay
  split
  case h_1 =>
    split
    · exact Fdc.delayDone_drives ..
    · rfl
  all_goals rfl

theorem Fdc.runRequest_drives (f : Fdc) (t : FdcTiming) : (f.runRequest t).drives = f.drives := by
  unfold Fdc.runRequest
  repeat' split
  all_goals rfl

theorem Fdc.Ok.update {f : Fdc} (h : f.Ok) (t : FdcTiming) (clk : Int) : (f.update t clk).Ok := by
  unfold Fdc.update
  dsimp only
  split
  · refine Fdc.Ok.congr (Fdc.Ok.congr ?_ (Fdc.runDelay_drives _)) (Fdc.runRequest_drives _ t)
    refine Fdc.Ok.runVerify (Fdc.Ok.runSteps ?_ t) t
    exact h.congr (Fdc.dropTransfer_drives _)
  · exact h.congr rfl

theorem Fdc.Ok.serviced {f : Fdc} (h : f.Ok) (x : Transfer) (t : FdcTiming) : (f.serviced x t).Ok := by
  have hd : ∀ g : Fdc, g.drives = f.drives → (g.sectorDone x t).drives = f.drives := fun g hg => by
    unfold Fdc.sectorDone
    repeat' split
    all_goals exact hg
  refine h.congr ?_
  unfold Fdc.serviced
  dsimp only
  split
  case isTrue => rfl
  case isFalse =>
    split
    case h_1 | h_2 => exact hd _ rfl
    all_goals rfl

theorem Fdc.Ok.writeImage {f : Fdc} (h : f.Ok) (a : Nat) (v : Byte) : (f.writeImage a v).Ok := by
  refine h.setDrive ⟨h.drive.1, fun m hm => ?_⟩
  obtain ⟨m', hm', rfl⟩ := Option.map_eq_some_iff.mp hm
  exact Memory.wf_write a v (h.drive.2 m' hm')

theorem Fdc.Ok.readReg {f : Fdc} (h : f.Ok) (t : FdcTiming) (reg : Nat) : (f.readReg t reg).2.Ok := by
  unfold Fdc.readReg
  split
  case h_4 =>
    unfold Fdc.readData
    split
    case h_1 | h_2 | h_3 => exact h.serviced ..
    all_goals exact h
  all_goals exact h.congr rfl

theorem Fdc.Ok.startTransfer {f : Fdc} (h : f.Ok) (t : FdcTiming) (v : Byte) (x : Transfer) : (f.startTransfer t v x).Ok := by
  unfold Fdc.startTransfer
  dsimp only
  repeat' split
  case isFalse.isFalse => exact (h.setDrive (h.drive.loadHead true)).congr rfl
  all_goals exact h.congr rfl

theorem Fdc.Ok.startTypeI {f : Fdc} (h : f.Ok) (v : Byte) (pending : Nat) (inward : Bool) :
    (f.startTypeI v pending inward).Ok := (h.setDrive (h.drive.loadHead _)).congr rfl

theorem Fdc.Ok.writeCommand {f : Fdc} (h : f.Ok) (t : FdcTiming) (v : Byte) : (f.writeCommand t v).Ok := by
  unfold Fdc.writeCommand
  split
  case isTrue => exact h.congr rfl
  case isFalse =>
    split
    case isTrue => exact h
    case isFalse =>
      split
      case h_1 | h_2 | h_3 | h_4 | h_5 | h_6 | h_7 | h_8 => exact h.startTypeI ..
      all_goals exact h.startTransfer ..

theorem Fdc.Ok.writeData {f : Fdc} (h : f.Ok) (t : FdcTiming) (v : Byte) : (f.writeData t v).Ok := by
  have hv : ({ f with data := v } : Fdc).Ok := h.congr rfl
  unfold Fdc.writeData
  dsimp only
  split
  case h_1 => exact (hv.writeImage ..).serviced ..
  case h_2 =>
    refine Fdc.Ok.serviced ?_ ..
    exact (hv.writeImage (f.trackOffset + f.cursor % 4096) (Config.fdcByte f.draws)).congr rfl
  all_goals exact hv

theorem Fdc.Ok.writeReg {f : Fdc} (h : f.Ok) (t : FdcTiming) (reg : Nat) (v : Byte) : (f.writeReg t reg v).Ok := by
  unfold Fdc.writeReg
  split
  case h_1 => exact h.writeCommand t v
  case h_4 => exact h.writeData t v
  all_goals exact h.congr rfl

theorem Fdc.Ok.writeSystem {f : Fdc} (h : f.Ok) (v : Byte) : (f.writeSystem v).Ok := by
  unfold Fdc.writeSystem
  dsimp only
  split <;> exact h.congr rfl

theorem Fdc.Ok.frameEnd {f : Fdc} (h : f.Ok) (budget : Nat) : (f.frameEnd budget).Ok := h.congr rfl

theorem Fdc.Ok.machineReset {f : Fdc} (h : f.Ok) : f.machineReset.Ok := ⟨fun k => by
  obtain ⟨hhead, hmedia⟩ := f.machineReset_drive k
  rw [Drive.Ok, hhead, hmedia]
  exact h.drive_at k⟩

theorem Fdc.Ok.eject {f : Fdc} (h : f.Ok) (k : Fin 4) : (f.eject k).Ok :=
  h.set k (d := { f.drives[k] with media := none }) ⟨(h.drive_at k).1, fun _ hm => nomatch hm⟩ rfl

/-- An image that decodes is canonical, in both formats (R566). -/
theorem wf_of_decodeImage {format : DiskFormat} {bytes : List Byte} {m : Memory} (h : decodeImage format bytes = .ok m) :
    Memory.wf m = true := by
  unfold decodeImage at h
  split at h
  · split at h
    · cases h
      exact Memory.wfFrom_ofBytes ..
    · cases h
  · split at h
    · cases h
      rename_i he
      unfold expandCompressed at he
      split at he
      · cases he
      · dsimp only at he
        split at he
        · cases he
          exact Memory.wfFrom_ofBytes ..
        · cases he
    · cases h

theorem Fdc.Ok.load {f g : Fdc} (h : f.Ok) {k : Fin 4} {format : DiskFormat} {bytes : List Byte} {protect : Bool}
    (hg : f.load k format bytes protect = .ok g) : g.Ok := by
  unfold Fdc.load at hg
  split at hg
  · cases hg
  · rename_i m hm
    cases hg
    refine h.set k (d := { f.drives[k] with media := some m, writeProtect := protect })
      ⟨(h.drive_at k).1, fun m' hm' => ?_⟩ rfl
    cases hm'
    exact wf_of_decodeImage hm

/-! ## The mapping -/

/-- What the invariant says of the latch, the page in slot 3 and the ROM in slot 0 depends on them alone. -/
theorem State.mappingOk_congr {s t : State} (hp : t.params = s.params) (hl : t.latch = s.latch) (h3 : t.ram3 = s.ram3)
    (hr : t.rom = s.rom) : t.MappingOk ↔ s.MappingOk := by
  simp only [State.MappingOk, hp, hl, h3, hr]

/-- Putting the disk ROM, or the ROM that the latch names, in slot 0 keeps the mapping (R90, R91). -/
theorem State.MappingOk.setRomBank {s : State} (h : s.MappingOk) {k : RomKind}
    (hk : k = s.params.diskRom ∨ k = s.latchRom) : (s.setRomBank k).MappingOk := by
  cases hv : s.params.variant <;> simp_all [State.MappingOk, State.latchRom, or_comm]

theorem State.MappingOk.fetchMap {s : State} (h : s.MappingOk) (a : Word) : (s.fetchMap a).MappingOk := by
  unfold State.fetchMap
  split
  · exact h.setRomBank (.inl rfl)
  · split
    · exact h.setRomBank (.inr rfl)
    · exact h

/-- A latch value with the RAM bank it selects keeps the mapping, with the ROM it names or the disk ROM (R92, R94). -/
theorem State.MappingOk.setLatch {s : State} (h : s.MappingOk) (hv : s.params.variant = .m128) (v : Byte) {k : RomKind}
    (hk : k = s.params.diskRom ∨ k = if v.getLsbD 4 then .rom1 else .rom0) :
    ({ s.selectRamBank (v.extractLsb' 0 3) with latch := v, rom := k } : State).MappingOk := by
  simp only [State.MappingOk, hv, State.selectRamBank] at h ⊢
  refine ⟨fun hn => if_pos hn, fun hb => ?_, hk⟩
  split
  · assumption
  · exact h.2.1 hb

theorem State.MappingOk.ioWrite {s : State} (h : s.MappingOk) (p : Word) (v : Byte) : (s.ioWrite p v).MappingOk := by
  let u := ((s.writeFdcPort p v).writeAyPort p v).writeUlaPort p v
  have hu : u.MappingOk := (State.mappingOk_congr (by simp [u]) (by simp [u]) (by simp [u]) (by simp [u])).mpr h
  change (u.writeLatchPort p v).MappingOk
  unfold State.writeLatchPort
  split
  case isTrue ho =>
    have hv : u.params.variant = .m128 := by
      simp only [State.latchOwns, Bool.and_eq_true, beq_iff_eq] at ho
      exact ho.1.1.1
    dsimp only
    split
    case isTrue hd => exact hu.setLatch hv v (.inl (by simpa [State.diskActive] using hd))
    case isFalse => exact hu.setLatch hv v (.inr rfl)
  case isFalse => exact hu

/-! ## The drives through the ports -/

theorem State.portRead_fdcOk {s : State} (h : s.fdc.Ok) (p : Word) : (s.portRead p).fdc.Ok := by
  have hu : (s.syncFdc s.accessClk).fdc.Ok := h.update ..
  unfold State.portRead State.ioRead
  split
  · exact hu.readReg ..
  · split
    · exact hu
    · split
      · exact h
      · split <;> exact h

theorem State.ioWrite_fdcOk {s : State} (h : s.fdc.Ok) (p : Word) (v : Byte) : (s.ioWrite p v).fdc.Ok := by
  have hu := h.update s.params.fdc s.accessClk
  simp only [State.ioWrite, State.writeLatchPort_fdc, State.writeUlaPort_fdc, State.writeAyPort_fdc]
  unfold State.writeFdcPort
  split
  · exact hu.writeReg ..
  · split
    · exact hu.writeSystem v
    · exact h

/-! ## The invariant through an instruction's step -/

theorem State.Inv.memoryOk {s : State} (h : s.Inv) : Memory.Ok s.mem := h.memory

/-- The invariant reads the memory, the mapping and the drives. -/
theorem State.Inv.congr {s t : State} (h : s.Inv) (hm : t.mem = s.mem) (hb : t.bus = s.bus) : t.Inv where
  memory := by
    rw [State.MemoryOk, hm]
    exact h.memory
  mapping := (State.mappingOk_congr (congrArg Bus.params hb) (congrArg Bus.latch hb) (congrArg Bus.ram3 hb)
    (congrArg Bus.rom hb)).mpr h.mapping
  drives := by
    rw [State.DrivesOk, show t.fdc = s.fdc from congrArg Bus.fdc hb]
    exact h.drives

/-- An update of memory that stays canonical keeps the invariant. -/
theorem State.Inv.setMem {s : State} (h : s.Inv) {m : Memory} (hm : m.Ok) : ({ s with mem := m } : State).Inv :=
  ⟨hm, h.mapping, h.drives⟩

theorem State.Inv.portRead {s : State} (h : s.Inv) (p : Word) : (s.portRead p).Inv where
  memory := by
    rw [State.MemoryOk, State.portRead_mem]
    exact h.memory
  mapping := (State.mappingOk_congr (by simp) (by simp) (by simp) (by simp)).mpr h.mapping
  drives := (State.portRead_fdcOk ⟨h.drives⟩ p).drive_at

theorem State.Inv.ioWrite {s : State} (h : s.Inv) (p : Word) (v : Byte) : (s.ioWrite p v).Inv where
  memory := by
    rw [State.MemoryOk, State.ioWrite_mem]
    exact h.memory
  mapping := h.mapping.ioWrite p v
  drives := (State.ioWrite_fdcOk ⟨h.drives⟩ p v).drive_at

/-- An instruction keeps the invariant: its stores keep the memory canonical, and it reaches the mapping and the drives only
through a port. -/
theorem State.Inv.exec {i : Instr} {s t : State} (h : s.Inv) (ht : exec i s = .next t) : t.Inv := by
  obtain ⟨⟨-, hmem⟩, hbus⟩ := exec_effect ht
  have hm : Memory.Ok t.mem := hmem h.memory
  obtain hb | ⟨-, ⟨p, hb⟩ | ⟨u, p, v, hum, hu, hb⟩⟩ := hbus
  · exact (h.setMem hm).congr rfl hb
  · exact ((h.portRead p).setMem hm).congr rfl hb
  · exact (((h.congr hum hu).ioWrite p v).setMem hm).congr rfl hb

theorem State.Inv.fetchMap {s : State} (h : s.Inv) (a : Word) : (s.fetchMap a).Inv where
  memory := by
    rw [State.MemoryOk, State.fetchMap_mem]
    exact h.memory
  mapping := h.mapping.fetchMap a
  drives := by
    rw [State.DrivesOk, State.fetchMap_fdc]
    exact h.drives

theorem State.Inv.fetch {s : State} (h : s.Inv) : s.fetch.2.Inv := by
  simp only [State.fetch, State.fetchedMap]
  split
  · exact (h.fetchMap _).fetchMap _
  · exact h.fetchMap _

theorem State.Inv.runInstr {i : Instr} {s t : State} (h : s.Inv) (ht : runInstr i s = .next t) : t.Inv := by
  unfold Sys2Proof.Machine.runInstr at ht
  split at ht
  case h_1 u hu =>
    cases ht
    have hbegin : (s.begin i).Inv := h.congr (by rw [State.begin_eq]) (by rw [State.begin_eq]; rfl)
    exact (hbegin.exec hu).congr (by rw [State.finish_eq]) (by rw [State.finish_eq]; rfl)
  case h_2 => cases ht
  case h_3 => cases ht

theorem State.Inv.instrStep {s t : State} (h : s.Inv) (ht : s.instrStep = .next t) : t.Inv := by
  unfold State.instrStep at ht
  split at ht
  · exact h.fetch.runInstr ht
  · cases ht

/-! ## The invariant through a frame boundary -/

/-- Taking an interrupt pushes PC and reaches nothing else of what the invariant reads (R532, R537). -/
theorem State.Inv.takeInterrupt {s : State} (h : s.Inv) (n : Bool) (w : Option Word) (a : Word) (c : Nat) :
    (s.takeInterrupt n w a c).Inv where
  memory := by
    change Memory.Ok _
    simp [State.takeInterrupt, h.memoryOk]
  mapping := (State.mappingOk_congr (by simp) (by simp) (by simp) (by simp)).mpr h.mapping
  drives := by
    rw [State.DrivesOk, State.takeInterrupt_fdc]
    exact h.drives

theorem State.Inv.interruptCheck {s t : State} (h : s.Inv) (ht : s.interruptCheck = .next t) : t.Inv := by
  unfold State.interruptCheck State.acceptInt at ht
  repeat' split at ht
  all_goals cases ht
  case isFalse => exact h
  all_goals exact h.takeInterrupt ..

theorem State.devicesFrameEnd_mem (s : State) : s.devicesFrameEnd.mem = s.mem := by simp [State.devicesFrameEnd]

theorem State.devicesFrameEnd_fdc (s : State) :
    s.devicesFrameEnd.fdc = (s.fdc.update s.params.fdc s.cpu.clk).frameEnd s.params.frameBudget := by
  simp [State.devicesFrameEnd, State.syncFdc]

theorem State.Inv.devicesFrameEnd {s : State} (h : s.Inv) : s.devicesFrameEnd.Inv where
  memory := by
    rw [State.MemoryOk, State.devicesFrameEnd_mem]
    exact h.memory
  mapping := by
    refine (State.mappingOk_congr ?_ ?_ ?_ ?_).mpr h.mapping
    all_goals simp [State.devicesFrameEnd]
  drives := by
    rw [State.drivesOk_iff, State.devicesFrameEnd_fdc]
    exact ((State.drivesOk_iff.mp h.drives).update s.params.fdc s.cpu.clk).frameEnd _

/-- Both resets leave the mapping that the latch value 0 names, and keep the heads and the media (R110, R601). -/
theorem State.Inv.hostReset {s : State} (h : s.Inv) : s.hostReset.Inv where
  memory := h.memory
  mapping := by cases hv : s.params.variant <;> simp [State.MappingOk, State.hostReset, resetRom, hv]
  drives := (State.drivesOk_iff.mp h.drives).machineReset.drive_at

theorem State.Inv.loadSnapshot {s t : State} {snap : Snapshot} (h : s.Inv) (ht : s.loadSnapshot snap = .ok t) : t.Inv := by
  have hw (hf : s.snapshotFits snap = true) : (s.withSnapshot snap).Inv :=
    ⟨State.withSnapshot_memoryOk h.memory hf, h.mapping, h.drives⟩
  unfold State.loadSnapshot at ht
  split at ht
  case isFalse => cases ht
  case isTrue hf =>
    split at ht
    case h_1 hv =>
      cases ht
      exact ⟨(hw hf).memory, (hw hf).mapping.setRomBank (.inr (by simp [State.latchRom, State.withSnapshot, hv])), h.drives⟩
    case h_2 hv =>
      cases ht
      refine ⟨(hw hf).memory, (hw hf).mapping.setLatch hv snap.latch (.inr ?_), h.drives⟩
      simp [State.latchRom, State.withSnapshot, hv]

theorem State.Inv.afterLoad {s : State} (h : s.Inv) {r : Except HostError State} (hr : ∀ t, r = .ok t → t.Inv) :
    (s.afterLoad r).2.Inv := by
  obtain ⟨t, ht, ha⟩ | ⟨e, -, ha⟩ := s.afterLoad_cases r
  · rw [ha]
    exact hr t ht
  · rw [ha]
    exact h

/-- Every host call keeps the invariant (R584). -/
theorem State.Inv.hostAction {s : State} (h : s.Inv) (a : HostAction) : (s.hostAction a).2.Inv := by
  cases a with
  | nmi => exact h.takeInterrupt ..
  | reset => exact h.hostReset
  | diskLoad drive format bytes protect =>
    refine h.afterLoad fun t ht => ?_
    obtain ⟨f, hf, rfl⟩ : ∃ f, s.fdc.load drive format bytes protect = .ok f ∧ { s with fdc := f } = t := by
      cases hl : s.fdc.load drive format bytes protect <;> simp_all [Except.map]
    exact ⟨h.memory, h.mapping, ((State.drivesOk_iff.mp h.drives).load hf).drive_at⟩
  | diskEject drive => exact ⟨h.memory, h.mapping, ((State.drivesOk_iff.mp h.drives).eject drive).drive_at⟩
  | snapshotLoad snap => exact h.afterLoad fun t => h.loadSnapshot
  | _ => exact ⟨h.memory, h.mapping, h.drives⟩

theorem State.Inv.hostActions {s : State} (h : s.Inv) (as : List HostAction) : (s.hostActions as).2.Inv := by
  induction as generalizing s with
  | nil => exact h
  | cons a as ih => exact ih (h.hostAction a)

theorem State.Inv.frameEnd {s t : State} (h : s.Inv) (ht : s.frameEnd = .next t) : t.Inv := by
  unfold State.frameEnd at ht
  split at ht
  case h_1 u hu =>
    cases ht
    have hdevices := (h.interruptCheck hu).devicesFrameEnd
    have hrebase : u.devicesFrameEnd.rebase.Inv := ⟨hdevices.memory, hdevices.mapping, hdevices.drives⟩
    have hcalls := hrebase.hostActions u.devicesFrameEnd.rebase.pending
    exact ⟨hcalls.memory, hcalls.mapping, hcalls.drives⟩
  case h_2 => cases ht
  case h_3 => cases ht

/-- Settles O11: an instruction's step and a frame boundary keep the memory canonical, the mapping and the drives. -/
theorem stepKeepsInvariant : Obligations.StepKeepsInvariant := by
  unfold Obligations.StepKeepsInvariant
  intro s t h ht
  unfold step at ht
  split at ht
  · exact h.frameEnd ht
  · exact h.instrStep ht

/-- Settles O10: no memory is written, the mapping is the one of latch value 0, and the drives are empty with their heads at
track 0. -/
theorem resetInvariant : Obligations.ResetInvariant := by
  unfold Obligations.ResetInvariant
  intro p
  refine ⟨⟨rfl, rfl⟩, ?_, ?_⟩
  · cases hv : p.variant <;> simp [State.MappingOk, State.resetWith, resetRom, hv]
  · have hd : ∀ k : Fin 4, Fdc.reset.drives[k] = Drive.reset := by decide
    intro k
    exact (hd k).symm ▸ ⟨by decide, nofun⟩

end Sys2Proof.Machine
end

section
/-! PROOFS. Memory as an address reads and writes it (spec/20_memory.md R82 to R96): a store and the next read, the banks, words
and the stack, and the opcode fetch with its trap. From these: O16, O17, O18, O6 and O7. -/

namespace Sys2Proof.Machine

/-! ## A store and the next read (R83, R86, R87) -/

/-- Settles O16: an address reads the byte stored exactly where it reads from the location stored to. -/
theorem storeThenRead : Obligations.StoreThenRead := by
  unfold Obligations.StoreThenRead
  intro s a v
  refine ⟨fun ha => ?_, fun ha p => ?_, fun p hp => ?_, s.writeByte_cpu a v⟩
  · rw [State.readByte_writeByte, if_pos (s.writeLoc_eq_readLoc a ha).symm]
  · rw [State.readByte_writeByte, if_neg (s.readLoc_ne_of_rom a p ha)]
  · rw [State.readByte_writeByte, if_neg hp]

/-! ## Banks (R83, R84, R92) -/

section
variable (s : State) {q : Word}

theorem slotOf_eq_one (h : 0x4000 ≤ q.toNat) (h' : q.toNat < 0x8000) : slotOf q = 1 := by
  simp only [slotOf]
  omega

theorem slotOf_eq_two (h : 0x8000 ≤ q.toNat) (h' : q.toNat < 0xC000) : slotOf q = 2 := by
  simp only [slotOf]
  omega

theorem slotOf_eq_three (h : 0xC000 ≤ q.toNat) : slotOf q = 3 := by
  have := q.isLt
  simp only [slotOf]
  omega

/-- Slot 1 is bank 5 (R83). -/
theorem State.readLoc_slot1 (h : 0x4000 ≤ q.toNat) (h' : q.toNat < 0x8000) : s.readLoc q = 5 * 16384 + q.toNat % 16384 := by
  rw [State.readLoc, slotOf_eq_one h h']
  rfl

/-- Slot 2 is bank 2 (R83). -/
theorem State.readLoc_slot2 (h : 0x8000 ≤ q.toNat) (h' : q.toNat < 0xC000) : s.readLoc q = 2 * 16384 + q.toNat % 16384 := by
  rw [State.readLoc, slotOf_eq_two h h']
  rfl

/-- Slot 3 is the selected bank (R84). -/
theorem State.readLoc_slot3 (h : 0xC000 ≤ q.toNat) : s.readLoc q = s.ram3.toNat * 16384 + q.toNat % 16384 := by
  rw [State.readLoc, slotOf_eq_three h]
  rfl

theorem slotOf_lt_three (h : q.toNat < 0xC000) : slotOf q = 0 ∨ slotOf q = 1 ∨ slotOf q = 2 := by
  simp only [slotOf]
  omega

/-- Below slot 3 the page read depends on the ROM alone. -/
theorem State.readLoc_of_lt {t : State} (hr : t.rom = s.rom) (h : q.toNat < 0xC000) : t.readLoc q = s.readLoc q := by
  obtain h | h | h := slotOf_lt_three h <;> simp [State.readLoc, State.readPage, h, hr]

/-- Below slot 3 the page written is fixed. -/
theorem State.writeLoc_of_lt {t : State} (h : q.toNat < 0xC000) : t.writeLoc q = s.writeLoc q := by
  obtain h | h | h := slotOf_lt_three h <;> simp [State.writeLoc, State.writePage, h]

/-- No address below slot 3 reads from a bank that is neither 5 nor 2. -/
theorem State.readLoc_ne_of_bank (h : q.toNat < 0xC000) {n : BitVec 3} (h5 : n ≠ 5) (h2 : n ≠ 2) (k : Nat)
    (hk : k < 16384) : s.readLoc q ≠ n.toNat * 16384 + k := by
  have ho := offOf_lt q
  have hn := n.isLt
  have h5' : n.toNat ≠ 5 := fun e => h5 (BitVec.eq_of_toNat_eq e)
  have h2' : n.toNat ≠ 2 := fun e => h2 (BitVec.eq_of_toNat_eq e)
  obtain h | h | h := slotOf_lt_three h
  · cases hr : s.rom <;> simp [State.readLoc, State.readPage, h, hr, physical, pageSize, romPage] at ho ⊢ <;> omega
  · simp [State.readLoc, State.readPage, h, physical, pageSize, ramPage] at ho ⊢
    omega
  · simp [State.readLoc, State.readPage, h, physical, pageSize, ramPage] at ho ⊢
    omega

end

/-- What an address reads after a store and the selection of a bank. -/
theorem State.readByte_writeByte_select (u : State) (a p : Word) (v : Byte) (k : BitVec 3) :
    ((u.writeByte a v).selectRamBank k).readByte p =
      if (u.selectRamBank k).readLoc p = u.writeLoc a then v else (u.selectRamBank k).readByte p := by
  have h : ((u.writeByte a v).selectRamBank k).readLoc p = (u.selectRamBank k).readLoc p :=
    State.readLoc_congr (by simp) (by simp) p
  unfold State.readByte
  rw [h, State.selectRamBank_mem, State.writeByte_mem, Memory.read_write, State.selectRamBank_mem]

/-- Settles O17: the locations of the four slots, and what each reads after a store into slot 3. -/
theorem bankSelection : Obligations.BankSelection := by
  unfold Obligations.BankSelection
  intro s n m a p v hn hm ha hp u t
  have hread (w : State) {k : BitVec 3} (hk : k.toNat < w.params.ramBanks) {q : Word} (hq : 0xC000 ≤ q.toNat) :
      (w.selectRamBank k).readLoc q = k.toNat * 16384 + q.toNat % 16384 := by
    rw [State.readLoc_slot3 _ hq, State.selectRamBank_ram3, if_pos hk]
  have hwrite {q : Word} (hq : 0xC000 ≤ q.toNat) : u.writeLoc q = n.toNat * 16384 + q.toNat % 16384 :=
    (u.writeLoc_eq_readLoc q (by omega)).trans (hread s hn hq)
  refine ⟨fun q h h' => ?_, fun q h h' => ?_, fun q h => ?_, hread s hn hp, hwrite hp, ?_, fun hnm => ?_, fun h5 h2 q hq => ?_,
    fun h5 k => ?_, fun h2 k => ?_⟩
  · rw [s.writeLoc_eq_readLoc q h, s.readLoc_slot1 h h']
    exact ⟨rfl, rfl⟩
  · rw [s.writeLoc_eq_readLoc q (by omega), s.readLoc_slot2 h h']
    exact ⟨rfl, rfl⟩
  · have hr : u.readLoc q = s.readLoc q := s.readLoc_of_lt rfl h
    refine ⟨hr, s.writeLoc_of_lt h, ?_⟩
    simp only [State.execByte, State.readByte, hr, State.overlayActive]
    rfl
  · rw [State.readByte_writeByte_select, hread u hn ha, hwrite ha, if_pos rfl]
  · have hne : m.toNat ≠ n.toNat := fun e => hnm (BitVec.eq_of_toNat_eq e.symm)
    rw [State.readByte_writeByte_select, hread u hm hp, hwrite ha, if_neg (by omega)]
    exact State.readByte_congr (by simp [u]) (by simp [u]) (by simp [u, hm]) p
  · rw [State.readByte_writeByte, hwrite ha, if_neg (u.readLoc_ne_of_bank hq h5 h2 _ (Nat.mod_lt _ (by decide)))]
  · have hq : (a - 0x8000).toNat = a.toNat - 0x8000 := by bv_omega
    rw [State.readByte_writeByte_select, State.readLoc_slot1 _ (by omega) (by omega), hwrite ha, h5, if_pos (by simp; omega)]
  · have hq : (a - 0x4000).toNat = a.toNat - 0x4000 := by bv_omega
    rw [State.readByte_writeByte_select, State.readLoc_slot2 _ (by omega) (by omega), hwrite ha, h2, if_pos (by simp; omega)]

/-! ## Words and the stack (R95, R96) -/

theorem Word.toNat_ofBytes (h l : Byte) : (Word.ofBytes h l).toNat = l.toNat + 256 * h.toNat := by
  rw [Word.ofBytes, BitVec.toNat_append h l, ← Nat.shiftLeft_add_eq_or_of_lt l.isLt, Nat.shiftLeft_eq]
  omega

@[simp] theorem Word.ofBytes_hi_lo (w : Word) : Word.ofBytes w.hi w.lo = w := by
  have hl : w.lo.toNat = w.toNat % 256 := by simp [Word.lo]
  have hh : w.hi.toNat = w.toNat / 256 := by
    have := w.isLt
    simp [Word.hi, Nat.shiftRight_eq_div_pow]
    omega
  refine BitVec.eq_of_toNat_eq ?_
  rw [Word.toNat_ofBytes, hl, hh]
  omega

/-- A word stored where both its bytes are writable is read back: its two bytes stand at different locations. -/
theorem State.readWord_of_stored {s t : State} {a w : Word} (hr : t.rom = s.rom) (h3 : t.ram3 = s.ram3)
    (ha : 0x4000 ≤ a.toNat) (ha' : 0x4000 ≤ (a + 1).toNat) (hlo : Memory.read t.mem (s.writeLoc a) = w.lo)
    (hhi : Memory.read t.mem (s.writeLoc (a + 1)) = w.hi) : t.readWord a = w := by
  rw [State.readWord, State.readByte, State.readByte, State.readLoc_congr hr h3, State.readLoc_congr hr h3,
    ← s.writeLoc_eq_readLoc a ha, ← s.writeLoc_eq_readLoc (a + 1) ha', hlo, hhi, Word.ofBytes_hi_lo]

theorem State.writeWord_mem (s : State) (a v : Word) :
    (s.writeWord a v).mem = Memory.write (Memory.write s.mem (s.writeLoc a) v.lo) (s.writeLoc (a + 1)) v.hi := by
  rw [State.writeWord, State.writeByte_mem, State.writeByte_mem, State.writeLoc_congr (s.writeByte_ram3 a v.lo)]

/-- Settles O18: the two bytes of a word are stored at different locations, in either order. -/
theorem wordsAndStack : Obligations.WordsAndStack := by
  unfold Obligations.WordsAndStack
  intro s a v
  refine ⟨Word.toNat_ofBytes .., fun ha ha' => ?_, fun h1 h2 => ⟨?_, ?_⟩, by simp⟩
  · refine State.readWord_of_stored (s := s) (by simp) (by simp) ha ha' ?_ ?_
    · rw [State.writeWord_mem, Memory.read_write_other _ _ (s.writeLoc_succ_ne a).symm, Memory.read_write_same]
    · rw [State.writeWord_mem, Memory.read_write_same]
  · have hsp : s.cpu.sp - 1 = s.cpu.sp - 2 + 1 := by bv_omega
    have hmem := s.push16_mem v
    rw [hsp] at h1 hmem
    rw [State.popped, show (s.push16 v).cpu.sp = s.cpu.sp - 2 by simp]
    refine State.readWord_of_stored (s := s) (by simp) (by simp) h2 h1 ?_ ?_
    · rw [hmem, Memory.read_write_same]
    · rw [hmem, Memory.read_write_other _ _ (s.writeLoc_succ_ne _), Memory.read_write_same]
  · simp

/-! ## The opcode fetch and the trap (R88 to R93) -/

theorem State.trapEnters_iff (s : State) (a : Word) :
    s.trapEnters a = true ↔ s.rom = s.params.trapRom ∧ a.toNat < 0x4000 ∧ a ∈ s.params.trapLoci := by
  have hs : slotOf a = 0 ↔ a.toNat < 0x4000 := by
    simp only [slotOf]
    omega
  simp [State.trapEnters, State.overlayActive, hs, and_assoc]

theorem State.trapExits_iff (s : State) (a : Word) :
    s.trapExits a = true ↔ s.rom = s.params.diskRom ∧ s.params.trapExit.toNat ≤ a.toNat := by
  simp [State.trapExits, State.diskActive, BitVec.le_def]

/-- The injected byte stands only where the trap fires (R85, R88). -/
theorem State.execByte_of_not_enters {s : State} {a : Word} (h : s.trapEnters a = false) : s.execByte a = s.readByte a :=
  if_neg (ne_true_of_eq_false h)

/-- No opcode fetch from slot 1 upward fires the trap. -/
theorem State.trapEnters_of_ge {s : State} {a : Word} (h : 0x4000 ≤ a.toNat) : s.trapEnters a = false := by
  rw [← Bool.not_eq_true, State.trapEnters_iff]
  omega

/-- An opcode fetch away from the trap reads the byte in memory and changes nothing (R88). -/
theorem State.fetchOp_plain {s : State} {a : Word} (hn : s.trapEnters a = false) (hx : s.trapExits a = false) :
    s.fetchOp a = (s.readByte a, s) := by
  simp [State.fetchOp, State.fetchMap, hn, hx, State.execByte_of_not_enters hn]

/-- Settles O7: the three cases of the trap check; after an entry the byte is the disk ROM's, and from 0x4000 upward the ROM
in slot 0 does not show. -/
theorem trapEntryAndExit : Obligations.TrapEntryAndExit := by
  unfold Obligations.TrapEntryAndExit
  intro s a diskRom enters exits restored
  have henters : s.trapEnters a = true ↔ enters := s.trapEnters_iff a
  have hexits : s.trapExits a = true ↔ exits := s.trapExits_iff a
  refine ⟨fun he => ?_, fun hn hx => ⟨?_, fun ha => ?_⟩, fun hn hx => ?_⟩
  · have hslot : slotOf a = 0 := by
      simp only [slotOf]
      omega
    have hoff : offOf a = a.toNat := Nat.mod_eq_of_lt he.2.1
    simp [State.fetchOp, State.fetchMap, henters.mpr he, State.readByte, State.readLoc, State.readPage, hslot, hoff, physical,
      pageSize, State.setRomBank, diskRom]
  · have hn' := eq_false_of_ne_true (mt henters.mp hn)
    simp only [State.fetchOp, State.fetchMap, hn', hexits.mpr hx]
    rfl
  · rw [State.execByte_of_not_enters (State.trapEnters_of_ge ha)]
    have hslot : slotOf a ≠ 0 := by
      simp only [slotOf]
      omega
    simp only [State.readByte, State.readLoc, State.readPage]
    split
    · contradiction
    all_goals rfl
  · exact State.fetchOp_plain (eq_false_of_ne_true (mt henters.mp hn)) (eq_false_of_ne_true (mt hexits.mp hx))

/-- Settles O6: both opcode fetches are plain, and argument reads have no effect. -/
theorem plainFetch : Obligations.PlainFetch := by
  unfold Obligations.PlainFetch
  intro s hdisk h0 h1
  have hx (a : Word) : s.trapExits a = false := by simp [State.trapExits, State.diskActive, hdisk]
  have hmap {a : Word} (h : s.trapEnters a = false) : s.fetchMap a = s := by simp [State.fetchMap, h, hx]
  cases hp : isPrefixByte (s.readByte s.cpu.pc) with
  | false => simp [State.fetch, State.fetchedMap, State.fetchArg, State.fetchOp_plain h0 (hx _), hp, hmap h0]
  | true =>
    simp only [State.fetch, State.fetchedMap, State.fetchArg, State.fetchOp_plain h0 (hx _),
      State.fetchOp_plain (h1 hp) (hx _), hp, hmap h0, hmap (h1 hp), if_true]

end Sys2Proof.Machine
end

section
/-! PROOFS. The instructions that use the stack (spec/41_load16.md R240 to R243; spec/42_exchange_block.md R263, R264;
spec/48_jump_call_return.md R447 to R453): the frame of a store of a word, and each instruction over it. From these: O30, O32
and O52. -/

namespace Sys2Proof.Machine

open Claims

/-! ## The frame of a store of a word -/

/-- A word stored with its high byte first, as `Push16` and `EX (SP),rr` store it (R96, R263). -/
def State.storeDown (s : State) (a v : Word) : State := (s.writeByte (a + 1) v.hi).writeByte a v.lo

theorem State.storeDown_cpu (s : State) (a v : Word) : (s.storeDown a v).cpu = s.cpu := by simp [State.storeDown]

/-- What a location holds after the store. -/
theorem State.read_storeDown (s : State) (a v : Word) (k : Nat) :
    Memory.read (s.storeDown a v).mem k =
      if k = s.writeLoc a then v.lo else if k = s.writeLoc (a + 1) then v.hi else Memory.read s.mem k := by
  rw [State.storeDown, State.writeByte_mem, State.writeByte_mem, State.writeLoc_congr (s.writeByte_ram3 (a + 1) v.hi),
    Memory.read_write, Memory.read_write]

/-- What an address reads after the store. -/
theorem State.readByte_storeDown (s : State) (a v p : Word) :
    (s.storeDown a v).readByte p =
      if s.readLoc p = s.writeLoc a then v.lo else if s.readLoc p = s.writeLoc (a + 1) then v.hi else s.readByte p := by
  have h : (s.storeDown a v).readLoc p = s.readLoc p :=
    State.readLoc_congr (by simp [State.storeDown]) (by simp [State.storeDown]) p
  rw [State.readByte, h, s.read_storeDown]
  rfl

/-- Bringing the raster up to the same clock again changes nothing. -/
theorem Ula.syncTo_syncTo (u : Ula) (g : VideoGeometry) (clk : Int) : (u.syncTo g clk).syncTo g clk = u.syncTo g clk := by
  simp [Ula.syncTo]

theorem State.storeDown_ula (s : State) (a v : Word) :
    (s.storeDown a v).ula =
      if (wordCells a v).any fun c => s.isDisplayPage (s.writePage (slotOf c.1)) then
        s.ula.syncTo s.params.video s.accessClk else s.ula := by
  have hpage (k : Nat) : (s.writeByte (a + 1) v.hi).writePage k = s.writePage k := State.writePage_congr (by simp) k
  have hdisplay (k : Nat) : (s.writeByte (a + 1) v.hi).isDisplayPage k = s.isDisplayPage k := by
    simp [State.isDisplayPage]
  rw [State.storeDown, State.writeByte_ula, State.writeByte_ula, hpage, hdisplay, State.writeByte_params,
    State.writeByte_accessClk]
  simp only [wordCells, List.any_cons, List.any_nil, Bool.or_false]
  cases s.isDisplayPage (s.writePage (slotOf a)) <;> cases s.isDisplayPage (s.writePage (slotOf (a + 1))) <;>
    simp [Ula.syncTo_syncTo]

theorem mem_wordCells {a v b : Word} {w : Byte} : (b, w) ∈ wordCells a v ↔ b = a ∧ w = v.lo ∨ b = a + 1 ∧ w = v.hi := by
  simp only [wordCells, List.mem_cons, List.not_mem_nil, or_false, Prod.mk.injEq]

/-- The effect of a store of a word (R87, R95): its two bytes at their locations, and the raster. -/
theorem State.storeDown_stores (s : State) (a v : Word) : Stores [] s (s.storeDown a v) (wordCells a v) where
  core := by
    rw [State.storeDown_cpu]
    constructor <;> simp
  stored b w hb := by
    rw [s.read_storeDown]
    obtain ⟨rfl, rfl⟩ | ⟨rfl, rfl⟩ := mem_wordCells.mp hb
    · rw [if_pos rfl]
    · rw [if_neg (s.writeLoc_succ_ne a), if_pos rfl]
  elsewhere k hk := by
    rw [s.read_storeDown, if_neg (hk _ _ (mem_wordCells.mpr (.inl ⟨rfl, rfl⟩))),
      if_neg (hk _ _ (mem_wordCells.mpr (.inr ⟨rfl, rfl⟩)))]
  reads p hp := by
    rw [s.readByte_storeDown, if_neg (hp _ _ (mem_wordCells.mpr (.inl ⟨rfl, rfl⟩))),
      if_neg (hp _ _ (mem_wordCells.mpr (.inr ⟨rfl, rfl⟩)))]
  raster := s.storeDown_ula a v
  others := by
    rw [State.storeDown, State.writeByte_eq, State.writeByte_eq]

/-! ## Changes of the core alone -/

/-- `t` is `u` but for the core. -/
def CoreOnly (u t : State) : Prop := t = { u with cpu := t.cpu }

theorem CoreOnly.refl (u : State) : CoreOnly u u := rfl

theorem CoreOnly.trans {s u t : State} (h : CoreOnly s u) (h' : CoreOnly u t) : CoreOnly s t :=
  Eq.trans h' (congrArg (fun v : State => { v with cpu := t.cpu }) h)

section
variable {u t : State} (h : CoreOnly u t)
include h

theorem CoreOnly.setA (v : Byte) : CoreOnly u (t.setA v) := h.trans rfl
theorem CoreOnly.setF (v : Byte) : CoreOnly u (t.setF v) := h.trans rfl
theorem CoreOnly.setHl (v : Word) : CoreOnly u (t.setHl v) := h.trans rfl
theorem CoreOnly.setSp (v : Word) : CoreOnly u (t.setSp v) := h.trans rfl
theorem CoreOnly.setMemptr (v : Word) : CoreOnly u (t.setMemptr v) := h.trans rfl
theorem CoreOnly.jump (w : Word) : CoreOnly u (t.jump w) := h.trans rfl
theorem CoreOnly.tick (n : Nat) : CoreOnly u (t.tick n) := h.trans rfl
theorem CoreOnly.setXy (x : IdxReg) (v : Word) : CoreOnly u (t.setXy x v) := h.trans (by cases x <;> rfl)
theorem CoreOnly.setReg8 (r : Reg8) (v : Byte) : CoreOnly u (t.setReg8 r v) := h.trans (by cases r <;> rfl)
theorem CoreOnly.setStackPair (q : StackPair) (v : Word) : CoreOnly u (t.setStackPair q v) := h.trans (by cases q <;> rfl)

end

/-- What follows a store on the core alone adds the cells it changes to the frame of the store. -/
theorem stores_of_core {ws : List Cell} {s u t : State} {cells : List (Word × Byte)} (h : Stores [] s u cells)
    (hk : Keeps ws s.cpu t.cpu) (ht : CoreOnly u t) : Stores ws s t cells := by
  obtain ⟨-, hstored, helse, hreads, hraster, hothers⟩ := h
  have hm : t.mem = u.mem := by rw [ht]
  have hu : t.ula = u.ula := by rw [ht]
  have hr : t.rom = u.rom := by rw [ht]
  have h3 : t.ram3 = u.ram3 := by rw [ht]
  refine ⟨hk, fun a v ha => ?_, fun k hk => ?_, fun p hp => ?_, hu.trans hraster, ?_⟩
  · rw [hm, hstored a v ha]
  · rw [hm, helse k hk]
  · rw [State.readByte_congr hm hr h3, hreads p hp]
  · rw [hm, hu, ht, hothers]

/-- A store does not depend on SP. -/
theorem State.writeByte_setSp (s : State) (sp a : Word) (v : Byte) : (s.setSp sp).writeByte a v = (s.writeByte a v).setSp sp := by
  rw [State.writeByte_eq, State.writeByte_eq]
  rfl

/-- A push stores the word below SP and lowers SP (R96). -/
theorem State.push16_eq (s : State) (v : Word) : s.push16 v = (s.storeDown (s.cpu.sp - 2) v).setSp (s.cpu.sp - 2) := by
  have hsp : s.cpu.sp - 2 + 1 = s.cpu.sp - 1 := by bv_omega
  have hset (u : State) (w w' : Word) : (u.setSp w).setSp w' = u.setSp w' := rfl
  rw [State.push16, State.storeDown, hsp, State.writeByte_setSp, State.writeByte_setSp, State.writeByte_setSp, hset]

/-! ## PUSH and POP -/

/-- A storing instruction: a store of a word, then changes of the core alone. -/
theorem doesStoreAs_of_eq {taken : Bool} {i : Instr} {s t : State} {ws : List Cell} {cost : Nat} {a v : Word} {P : State → Prop}
    (he : exec i s = .next t) (hc : Costs i taken cost s t) (ht : CoreOnly (s.storeDown a v) t)
    (hk : Keeps (.clk :: ws) s.cpu t.cpu) (hP : P t) : DoesStoreAs taken i s ws cost (wordCells a v) P :=
  ⟨t, he, hc, stores_of_core (s.storeDown_stores a v) hk ht, hP⟩

/-- The word on top of the stack (R95, R96). -/
theorem State.popped_eq (s : State) :
    s.popped = BitVec.ofNat 16 ((s.readByte s.cpu.sp).toNat + 256 * (s.readByte (s.cpu.sp + 1)).toNat) := by
  rw [State.popped, State.readWord, ← Word.toNat_ofBytes, BitVec.ofNat_toNat, BitVec.setWidth_eq]

/-- The frame of a push: SP falls by 2 (R240 to R242). -/
theorem push_doesStore {i : Instr} {s : State} {v : Word} {cost : Nat} (he : exec i s = .next ((s.push16 v).charge i))
    (hc : i.tstates = cost) :
    DoesStore i s [.sp] cost (wordCells (s.cpu.sp - 2) v) fun t => t.cpu.sp = s.cpu.sp - 2 := by
  refine doesStoreAs_of_eq he ⟨?_, hc⟩ (by rw [State.push16_eq]; exact ((CoreOnly.refl _).setSp _).tick _) ?_ ?_
  · simp [State.tstates]
  · constructor <;> simp
  · simp

@[simp] theorem State.setXy_ix_cpu (s : State) (v : Word) : (s.setXy .ix v).cpu = { s.cpu with ix := v } := rfl
@[simp] theorem State.setXy_iy_cpu (s : State) (v : Word) : (s.setXy .iy v).cpu = { s.cpu with iy := v } := rfl

/-- A stack pair reads the word put into it. -/
theorem State.stackPair_setStackPair (s : State) (q : StackPair) (v : Word) : (s.setStackPair q v).stackPair q = v := by
  cases q <;> exact Word.ofBytes_hi_lo v

theorem State.stackPair_charge (s : State) (i : Instr) (q : StackPair) : (s.charge i).stackPair q = s.stackPair q := by
  cases q <;> rfl

@[simp] theorem State.xy_charge (s : State) (i : Instr) (x : IdxReg) : (s.charge i).xy x = s.xy x := by
  cases x <;> rfl

@[simp] theorem State.xy_setMemptr (s : State) (v : Word) (x : IdxReg) : (s.setMemptr v).xy x = s.xy x := by
  cases x <;> rfl

@[simp] theorem State.xy_setXy (s : State) (v : Word) (x : IdxReg) : (s.setXy x v).xy x = v := by
  cases x <;> rfl

/-- A pop into an index register (R243). -/
theorem popXy_does {i : Instr} {s : State} {x : IdxReg} {cost : Nat}
    (he : exec i s = .next ((s.popSp.setXy x s.popped).charge i)) (hc : i.tstates = cost) :
    Does i s [.sp, idxCell x] cost fun t => t.xy x = s.popped ∧ t.cpu.sp = s.cpu.sp + 2 := by
  refine ⟨_, he, ⟨?_, hc⟩, ⟨?_, (((CoreOnly.refl s).setSp _).setXy x _).tick _⟩, by simp, ?_⟩
  · cases x <;> rfl
  · cases x <;> constructor <;> simp [State.popSp, idxCell]
  · cases x <;> rfl

/-- Settles O30: a push is a store below SP; a pop reads the word on top, which the register then holds. -/
theorem pushAndPop : Obligations.PushAndPop := by
  unfold Obligations.PushAndPop
  intro s q pushes top
  have htop : s.popped = top := s.popped_eq
  refine ⟨push_doesStore rfl rfl, push_doesStore rfl rfl, push_doesStore rfl rfl, ?_, ?_, ?_⟩
  · refine ⟨_, rfl, ⟨?_, rfl⟩, ⟨?_, (((CoreOnly.refl s).setSp _).setStackPair q _).tick _⟩, ?_, ?_⟩
    · cases q <;> rfl
    · cases q <;> constructor <;> simp [State.popSp, State.setStackPair, stackCells]
    · rw [State.stackPair_charge, State.stackPair_setStackPair, htop]
    · cases q <;> rfl
  · rw [← htop]
    exact popXy_does (x := .ix) rfl rfl
  · rw [← htop]
    exact popXy_does (x := .iy) rfl rfl

/-! ## EX (SP),HL and its index forms -/

@[simp] theorem State.storeTop_cpu (s : State) (v : Word) : (s.storeTop v).cpu = s.cpu := by simp [State.storeTop]
@[simp] theorem State.storeTop_params (s : State) (v : Word) : (s.storeTop v).params = s.params := by simp [State.storeTop]

/-- The exchange of an index register with the word on top (R264). -/
theorem exchangeXy_doesStore {i : Instr} {s : State} {x : IdxReg} {cost : Nat}
    (he : exec i s = .next ((((s.storeTop (s.xy x)).setXy x s.popped).setMemptr s.popped).charge i)) (hc : i.tstates = cost) :
    DoesStore i s [idxCell x, .memptr] cost (wordCells s.cpu.sp (s.xy x)) fun t =>
      t.xy x = s.readWord s.cpu.sp ∧ t.cpu.memptr = s.readWord s.cpu.sp := by
  refine doesStoreAs_of_eq he ⟨?_, hc⟩ ((((CoreOnly.refl _).setXy x _).setMemptr _).tick _) ?_ ⟨by simp [State.popped], rfl⟩
  · cases x <;> simp [State.tstates]
  · cases x <;> constructor <;> simp [idxCell]

/-- Settles O32: the word on top is read before the register is stored in its place. -/
theorem exchangeStackTop : Obligations.ExchangeStackTop := by
  unfold Obligations.ExchangeStackTop
  intro s
  refine ⟨?_, exchangeXy_doesStore (x := .ix) rfl rfl, exchangeXy_doesStore (x := .iy) rfl rfl⟩
  refine doesStoreAs_of_eq rfl ⟨?_, rfl⟩ ((((CoreOnly.refl _).setHl _).setMemptr _).tick _) ?_
    ⟨Word.ofBytes_hi_lo _, rfl⟩
  · simp [State.tstates]
  · constructor <;> simp

/-! ## CALL, RET and RST -/

/-- A bit by its number is a bit by its place. -/
theorem bit_toNat {w : Nat} (v : BitVec w) (k : Nat) : bit v.toNat k = v.getLsbD k := by
  rw [BitVec.getLsbD, Nat.testBit_eq_decide_div_mod_eq, bit]

/-- The condition of an instruction in the words of R39. -/
theorem refCond_eq (cc : Cond) (s : State) : refCond cc s.cpu.f = s.cond cc := by
  cases cc <;> simp only [refCond, State.cond, bit_toNat]

@[simp] theorem State.call_cpu (s : State) (w : Word) :
    (s.call w).cpu = { s.cpu with sp := s.cpu.sp - 2, pc := w, memptr := w } := by
  rw [State.call, State.jump_cpu, State.push16_cpu]

@[simp] theorem State.call_params (s : State) (w : Word) : (s.call w).params = s.params := by
  rw [State.call, State.jump_params, State.push16_params]

theorem State.call_coreOnly (s : State) (w : Word) : CoreOnly (s.storeDown (s.cpu.sp - 2) s.cpu.pc) (s.call w) := by
  rw [State.call, State.push16_eq]
  exact ((CoreOnly.refl _).setSp _).jump w

/-- A call that is charged (R447, R448, R453). -/
theorem call_doesStoreAs {taken : Bool} {i : Instr} {s : State} {w : Word} {cost n : Nat}
    (he : exec i s = .next ((s.call w).tick n)) (hc : Costs i taken cost s ((s.call w).tick n)) :
    DoesStoreAs taken i s [.pc, .memptr, .sp] cost (wordCells (s.cpu.sp - 2) s.cpu.pc) fun t =>
      t.cpu.pc = w ∧ t.cpu.memptr = w ∧ t.cpu.sp = s.cpu.sp - 2 := by
  refine doesStoreAs_of_eq he hc (s.call_coreOnly w |>.tick n) ?_ (by simp)
  constructor <;> simp

/-- A return that is charged (R449, R450). -/
theorem return_doesAs {taken : Bool} {i : Instr} {s : State} {cost n : Nat} (he : exec i s = .next (s.popPc.tick n))
    (hc : Costs i taken cost s (s.popPc.tick n)) :
    DoesAs taken i s [.pc, .memptr, .sp] cost fun t =>
      t.cpu.pc = s.readWord s.cpu.sp ∧ t.cpu.memptr = s.readWord s.cpu.sp ∧ t.cpu.sp = s.cpu.sp + 2 := by
  refine ⟨_, he, hc, ⟨by constructor <;> simp, ?_⟩, ?_, ?_, ?_⟩
  · exact (((CoreOnly.refl s).setSp _).jump _).tick n
  · simp [State.popped]
  · simp [State.popped]
  · simp

/-- Where a restart goes (R453). -/
theorem restart_target (y : BitVec 3) : y.setWidth 16 <<< 3 = BitVec.ofNat 16 (y.toNat * 8) := by
  revert y
  decide

/-- Settles O52: a call is a push and a jump, a return a pop and a jump. -/
theorem callsAndReturns : Obligations.CallsAndReturns := by
  unfold Obligations.CallsAndReturns
  intro s cc nn y calls returns
  rw [refCond_eq, ← restart_target]
  refine ⟨call_doesStoreAs rfl ⟨by simp [State.tstates], rfl⟩, ?_, call_doesStoreAs rfl ⟨by simp [State.tstates], rfl⟩,
    return_doesAs rfl ⟨rfl, rfl⟩, ?_⟩
  · split
    case isTrue h => exact call_doesStoreAs (congrArg Host.Outcome.next (if_pos h)) ⟨by simp [State.tstatesTaken], rfl⟩
    case isFalse h =>
      refine ⟨_, congrArg Host.Outcome.next (if_neg h), ⟨rfl, rfl⟩, ⟨?_, rfl⟩, rfl⟩
      constructor <;> simp
  · split
    case isTrue h => exact return_doesAs (congrArg Host.Outcome.next (if_pos h)) ⟨rfl, rfl⟩
    case isFalse h =>
      refine ⟨_, congrArg Host.Outcome.next (if_neg h), ⟨rfl, rfl⟩, ⟨?_, rfl⟩, trivial⟩
      constructor <;> simp

end Sys2Proof.Machine
end

section
/-! PROOFS. Ports (spec/20_memory.md R100, R101; spec/49_io.md R480 to R489; spec/60_exceptions.md R560 to R569): the instructions
that read or write one byte, the decodes in arithmetic terms, and what an access does to each device. From these: O53, O55, O56,
O57 and O58. -/

namespace Sys2Proof.Machine

open Claims

/-! ## IN and OUT of a byte -/

/-- A word by its two bytes (R95). -/
theorem Word.ofBytes_eq (h l : Byte) : Word.ofBytes h l = BitVec.ofNat 16 (h.toNat * 256 + l.toNat) := by
  refine BitVec.eq_of_toNat_eq ?_
  have hh := h.isLt
  have hl := l.isLt
  rw [Word.toNat_ofBytes, BitVec.toNat_ofNat]
  omega

theorem packF_eq : ∀ s z y h x pv n c : Bool, packF s z y h x pv n c = flagByte s z y h x pv n c := by decide

theorem parity_eq : ∀ v : Byte, parity v = evenParity v.toNat := by decide

/-- The flags of an input (R481). -/
theorem inF_eq (v f : Byte) : inF v f = refIn v f := by
  have hz : (v == 0) = (v.toNat == 0) := by
    rw [Bool.eq_iff_iff, beq_iff_eq, beq_iff_eq, BitVec.toNat_eq]
    rfl
  simp only [inF, szxypF, szxyF, packF_eq, parity_eq, hz, refIn, bit_toNat, flagC]

/-- An output changes MEMPTR alone in the core (R487 to R489). -/
theorem out_doesOut {i : Instr} {s : State} {p w : Word} {v : Byte} {cost : Nat}
    (he : exec i s = .next (((s.ioWrite p v).setMemptr w).charge i)) (hc : i.tstates = cost) :
    DoesOut i s p v [.memptr] cost fun t => t.cpu.memptr = w := by
  refine ⟨_, he, ⟨?_, hc⟩, ?_, ((CoreOnly.refl _).setMemptr _).tick _, rfl⟩
  · simp [State.tstates]
  · constructor <;> simp

/-- Settles O53: the access, then the registers. -/
theorem inputOutputByte : Obligations.InputOutputByte := by
  unfold Obligations.InputOutputByte
  intro s n r p
  have hp : s.portAN n = p := Word.ofBytes_eq ..
  rw [← inF_eq, ← hp]
  refine ⟨?_, ?_, ?_, ?_, out_doesOut rfl rfl, out_doesOut rfl rfl⟩
  · refine ⟨_, rfl, ⟨?_, rfl⟩, ?_, (((CoreOnly.refl _).setA _).setMemptr _).tick _, rfl, rfl⟩
    · simp [State.tstates]
    · constructor <;> simp
  · refine ⟨_, rfl, ⟨?_, rfl⟩, ?_, ((((CoreOnly.refl _).setReg8 r _).setF _).setMemptr _).tick _, ?_, rfl, rfl⟩
    · cases r <;> simp [State.tstates, State.setReg8]
    · cases r <;> constructor <;> simp [State.setReg8, regCell]
    · cases r <;> rfl
  · refine ⟨_, rfl, ⟨?_, rfl⟩, ?_, (((CoreOnly.refl _).setF _).setMemptr _).tick _, rfl, rfl⟩
    · simp [State.tstates]
    · constructor <;> simp
  · have hw : Word.ofBytes s.cpu.a (n + 1) = BitVec.ofNat 16 (s.cpu.a.toNat * 256 + (n.toNat + 1) % 256) := Word.ofBytes_eq ..
    rw [← hw]
    exact out_doesOut rfl rfl

/-! ## The decodes (R101) -/

theorem getLsbD_iff {w : Nat} (v : BitVec w) (k : Nat) : v.getLsbD k = true ↔ v.toNat / 2 ^ k % 2 = 1 := by
  rw [← bit_toNat, bit, decide_eq_true_iff]

theorem State.diskActive_iff (s : State) : s.diskActive = true ↔ s.rom = s.params.diskRom := beq_iff_eq

theorem State.fdcOwns_iff (s : State) (p : Word) :
    s.fdcOwns p = true ↔ s.rom = s.params.diskRom ∧ p.toNat % 256 ∈ [0x1F, 0x3F, 0x5F, 0x7F] := by
  have hlow : p.extractLsb' 0 5 = 0x1F#5 ↔ p.toNat % 32 = 31 := by
    rw [BitVec.toNat_eq]
    simp
  simp only [State.fdcOwns, Bool.and_eq_true, s.diskActive_iff, beq_iff_eq, hlow, Bool.not_eq_true', ← Bool.not_eq_true,
    getLsbD_iff, List.mem_cons, List.not_mem_nil, or_false, and_assoc]
  refine and_congr_right fun _ => ?_
  omega

theorem State.systemOwns_iff (s : State) (p : Word) :
    s.systemOwns p = true ↔ s.rom = s.params.diskRom ∧ p.toNat % 256 = 0xFF := by
  have hlow : p.lo = 0xFF ↔ p.toNat % 256 = 0xFF := by
    rw [BitVec.toNat_eq]
    simp [Word.lo]
  simp only [State.systemOwns, Bool.and_eq_true, s.diskActive_iff, beq_iff_eq, hlow]

theorem aySelectOwns_iff (p : Word) : aySelectOwns p = true ↔ p.toNat / 16384 = 3 ∧ p.toNat / 2 % 2 = 0 := by
  simp only [aySelectOwns, Bool.and_eq_true, Bool.not_eq_true', ← Bool.not_eq_true, getLsbD_iff]
  omega

theorem ayDataOwns_iff (p : Word) : ayDataOwns p = true ↔ p.toNat / 16384 = 2 ∧ p.toNat / 2 % 2 = 0 := by
  simp only [ayDataOwns, Bool.and_eq_true, Bool.not_eq_true', ← Bool.not_eq_true, getLsbD_iff]
  omega

theorem ulaOwns_iff (p : Word) : ulaOwns p = true ↔ p.toNat % 2 = 0 := by
  simp only [ulaOwns, Bool.not_eq_true', ← Bool.not_eq_true, getLsbD_iff]
  omega

theorem State.latchOwns_iff (s : State) (p : Word) :
    s.latchOwns p = true ↔ s.params.variant = .m128 ∧ p.toNat < 0x8000 ∧ p.toNat / 2 % 2 = 0 := by
  simp only [State.latchOwns, Bool.and_eq_true, beq_iff_eq, Bool.not_eq_true', ← Bool.not_eq_true, getLsbD_iff, and_assoc]
  refine and_congr_right fun _ => ?_
  omega

theorem fdcRegister_eq (p : Word) : fdcRegister p = p.toNat / 32 % 4 := by
  simp [fdcRegister, Nat.shiftRight_eq_div_pow]

/-- No port with bit 1 clear is the floppy controller's or its system register's. -/
theorem State.not_disk_of_bit1 (s : State) {p : Word} (h : p.toNat / 2 % 2 = 0) :
    s.fdcOwns p = false ∧ s.systemOwns p = false := by
  simp only [← Bool.not_eq_true, s.fdcOwns_iff, s.systemOwns_iff, List.mem_cons, List.not_mem_nil, or_false]
  omega

end Sys2Proof.Machine
end

section
/-! PROOFS. What an access to a port does to each device (spec/60_exceptions.md R560 to R569), over the decodes. From this: O55,
O56, O57 and O58. -/

namespace Sys2Proof.Machine

open Claims

/-! ## The AY's registers through its ports (R567) -/

/-- Generating samples leaves the registers and the selection. -/
theorem Ay.samples_registers (y : Ay) (cfg : AudioConfig) (tables : AyTables) (n : Nat) :
    (y.samples cfg tables n).regs = y.regs ∧ (y.samples cfg tables n).sel = y.sel := by
  induction n generalizing y with
  | zero => exact ⟨rfl, rfl⟩
  | succ n ih => exact ih (y.sample cfg tables)

@[simp] theorem Ay.update_reg (y : Ay) (cfg : AudioConfig) (tables : AyTables) (clk : Int) (r : BitVec 4) :
    (y.update cfg tables clk).reg r = y.reg r := by
  have h : (y.update cfg tables clk).regs = y.regs := (y.samples_registers cfg tables _).1
  simp only [Ay.reg, h]

@[simp] theorem Ay.update_sel (y : Ay) (cfg : AudioConfig) (tables : AyTables) (clk : Int) :
    (y.update cfg tables clk).sel = y.sel := (y.samples_registers cfg tables _).2

@[simp] theorem Ay.select_reg (y : Ay) (v : Byte) (r : BitVec 4) : (y.select v).reg r = y.reg r := rfl

@[simp] theorem Ay.select_sel (y : Ay) (v : Byte) : (y.select v).sel = v.extractLsb' 0 4 := rfl

@[simp] theorem Ay.write_sel (y : Ay) (v : Byte) : (y.write v).sel = y.sel := by
  unfold Ay.write
  dsimp only
  split <;> rfl

theorem Ay.write_reg (y : Ay) (v : Byte) (r : BitVec 4) :
    (y.write v).reg r = if r = y.sel then v &&& ayMask r else y.reg r := by
  have h : (y.write v).regs = y.regs.set y.sel.toNat (v &&& ayMask y.sel) := by
    unfold Ay.write
    dsimp only
    split <;> rfl
  simp only [Ay.reg, h, Vector.getElem_set, BitVec.toNat_inj, eq_comm (a := y.sel)]
  split
  · simp [*]
  · rfl

/-- Writing the shape restarts the envelope. -/
theorem Ay.write_envStep {y : Ay} (h : y.sel = 13) (v : Byte) : (y.write v).envStep = 0 := by
  rw [Ay.write, if_pos h]

/-- What a register keeps of a byte, by its number (R567). -/
theorem toNat_and_ayMask (r : BitVec 4) (w : Byte) :
    (w &&& ayMask r).toNat =
      if r.toNat ∈ [1, 3, 5, 13] then w.toNat % 16 else if r.toNat ∈ [6, 8, 9, 10] then w.toNat % 32 else w.toNat := by
  have h16 : (w &&& 0x0F).toNat = w.toNat % 16 := (BitVec.toNat_and ..).trans (Nat.and_two_pow_sub_one_eq_mod _ 4)
  have h32 : (w &&& 0x1F).toNat = w.toNat % 32 := (BitVec.toNat_and ..).trans (Nat.and_two_pow_sub_one_eq_mod _ 5)
  have h256 : w &&& 0xFF = w := BitVec.and_allOnes
  unfold ayMask
  split <;> simp_all

/-- The floppy controller takes no part in a write to a port with bit 1 clear. -/
theorem State.writeFdcPort_of_bit1 (s : State) {p : Word} (h : p.toNat / 2 % 2 = 0) (v : Byte) : s.writeFdcPort p v = s := by
  obtain ⟨hfdc, hsys⟩ := s.not_disk_of_bit1 h
  simp [State.writeFdcPort, hfdc, hsys]

theorem State.ioWrite_ay (s : State) {p : Word} (h : p.toNat / 2 % 2 = 0) (v : Byte) :
    (s.ioWrite p v).ay = (s.writeAyPort p v).ay := by
  rw [State.ioWrite, State.writeLatchPort_ay, State.writeUlaPort_ay, s.writeFdcPort_of_bit1 h]

/-- A write to the register-select port. -/
theorem State.ioWrite_aySelect (s : State) {p : Word} (h : p.toNat / 16384 = 3 ∧ p.toNat / 2 % 2 = 0) (v : Byte) :
    (s.ioWrite p v).ay = (s.syncAy s.accessClk).ay.select v := by
  rw [s.ioWrite_ay h.2, State.writeAyPort, if_pos ((aySelectOwns_iff p).mpr h)]

/-- A write to the data port. -/
theorem State.ioWrite_ayData (s : State) {p : Word} (h : p.toNat / 16384 = 2 ∧ p.toNat / 2 % 2 = 0) (v : Byte) :
    (s.ioWrite p v).ay = (s.syncAy s.accessClk).ay.write v := by
  have hn : aySelectOwns p = false := by
    rw [← Bool.not_eq_true, aySelectOwns_iff]
    omega
  rw [s.ioWrite_ay h.2, State.writeAyPort, if_neg (by simp [hn]), if_pos ((ayDataOwns_iff p).mpr h)]

theorem State.syncAy_ay (s : State) (clk : Int) :
    (s.syncAy clk).ay = s.ay.update s.params.audio s.params.ayTables clk := rfl

/-- A read of the register-select port. -/
theorem State.portValue_ay (s : State) {p : Word} (hf : s.fdcOwns p = false) (hs : s.systemOwns p = false)
    (h : aySelectOwns p = true) : s.portValue p = (s.syncAy s.accessClk).ay.reg s.ay.sel := by
  have hsel : (s.syncAy s.accessClk).ay.sel = s.ay.sel := Ay.update_sel ..
  simp only [State.portValue, State.ioRead, hf, hs, h, State.readAyPort, Ay.read, hsel]
  rfl

/-- Settles O57: the two writes make the AY `select` and then `write`, with samples generated between, which leave the
registers. -/
theorem soundRegisters : Obligations.SoundRegisters := by
  unfold Obligations.SoundRegisters
  intro s v w p q hp hp1 hq hq1 t r kept
  have hay : t.ay = ((s.ioWrite p v).syncAy (s.ioWrite p v).accessClk).ay.write w := State.ioWrite_ayData _ ⟨hq, hq1⟩ w
  rw [State.syncAy_ay, s.ioWrite_aySelect ⟨hp, hp1⟩ v, State.syncAy_ay] at hay
  have hr : (v.extractLsb' 0 4).toNat = r := by simp [r]
  have hreg (k : BitVec 4) : t.ay.reg k = if k = v.extractLsb' 0 4 then w &&& ayMask k else s.ay.reg k := by
    rw [hay, Ay.write_reg]
    simp
  have hsel : t.ay.sel = v.extractLsb' 0 4 := by simp [hay]
  obtain ⟨hfdc, hsys⟩ := t.not_disk_of_bit1 hp1
  refine ⟨by rw [hsel, hr], ?_, fun k hk => ?_, fun h13 => ?_⟩
  · rw [t.portValue_ay hfdc hsys ((aySelectOwns_iff p).mpr ⟨hp, hp1⟩), State.syncAy_ay, Ay.update_reg, hreg, hsel,
      if_pos rfl, toNat_and_ayMask, hr]
  · rw [hreg, if_neg (fun h : k = _ => hk (h ▸ hr))]
  · have h : v.extractLsb' 0 4 = 13 := BitVec.eq_of_toNat_eq (hr.trans h13)
    rw [hay, Ay.write_envStep (by simpa using h)]

/-! ## Which device answers a read (R560, R562) -/

/-- A read of the ULA's port: bringing the raster up to the clock changes none of the bits. -/
theorem State.portValue_ula (s : State) {p : Word} (hf : s.fdcOwns p = false) (hs : s.systemOwns p = false)
    (ha : aySelectOwns p = false) (h : ulaOwns p = true) :
    s.portValue p = s.ula.portByte p (s.syncTape s.accessClk).tape.latch := by
  simp only [State.portValue, State.ioRead, hf, hs, ha, h, State.readUlaPort]
  rfl

/-- Settles O55: the order of the decodes. -/
theorem portReads : Obligations.PortReads := by
  unfold Obligations.PortReads
  intro s p n disk fdc sys ay ula t
  have hfdc : s.fdcOwns p = true ↔ fdc := s.fdcOwns_iff p
  have hsys : s.systemOwns p = true ↔ sys := s.systemOwns_iff p
  have hay : aySelectOwns p = true ↔ ay := aySelectOwns_iff p
  have hula : ulaOwns p = true ↔ ula := ulaOwns_iff p
  have hnot {b : Bool} {c : Prop} (h : b = true ↔ c) (hc : ¬c) : b = false := eq_false_of_ne_true (mt h.mp hc)
  refine ⟨fun h => ?_, fun h => ?_, fun hf hs h => ?_, fun hf hs ha h => ?_, fun hf hs ha hu => ?_, ?_⟩
  · rw [← fdcRegister_eq]
    simp only [State.portValue, State.ioRead, if_pos (hfdc.mpr h), State.readFdcPort]
  · have hf : ¬fdc := fun hf => absurd hf.2 (by simp [h.2])
    simp only [State.portValue, State.ioRead, hnot hfdc hf, hsys.mpr h, State.readSystemPort]
    rfl
  · exact s.portValue_ay (hnot hfdc hf) (hnot hsys hs) (hay.mpr h)
  · exact s.portValue_ula (hnot hfdc hf) (hnot hsys hs) (hnot hay ha) (hula.mpr h)
  · have hread : s.ioRead p = (s.floatingBus, s) := by
      simp only [State.ioRead, hnot hfdc hf, hnot hsys hs, hnot hay ha, hnot hula hu]
      rfl
    exact ⟨congrArg Prod.fst hread, congrArg Prod.snd hread⟩
  · simp [t]

/-! ## The bank latch (R94, R563) -/

/-- A write that the latch takes. -/
theorem State.ioWrite_latched (s : State) {p : Word} (v : Byte) (h : s.latchOwns p = true) (hl : s.latch.getLsbD 5 = false) :
    (s.ioWrite p v).latch = v ∧ (s.ioWrite p v).ram3 = (s.selectRamBank (v.extractLsb' 0 3)).ram3 ∧
      (s.ioWrite p v).rom = if s.diskActive then s.rom else if v.getLsbD 4 then .rom1 else .rom0 := by
  have hown (u : State) (hu : u.params = s.params) : u.latchOwns p = true := by rw [State.latchOwns, hu]; exact h
  have hdisk (u : State) (hu : u.params = s.params) (hr : u.rom = s.rom) : u.diskActive = s.diskActive := by
    rw [State.diskActive, State.diskActive, hu, hr]
  unfold State.ioWrite State.writeLatchPort
  rw [if_pos (by simpa [hown] using hl)]
  dsimp only
  rw [hdisk _ (by simp) (by simp)]
  split <;> simp

/-- A write that the latch does not take. -/
theorem State.ioWrite_notLatched (s : State) {p : Word} (v : Byte) (h : s.latchOwns p = false ∨ s.latch.getLsbD 5 = true) :
    (s.ioWrite p v).latch = s.latch ∧ (s.ioWrite p v).ram3 = s.ram3 ∧ (s.ioWrite p v).rom = s.rom := by
  have hown (u : State) (hu : u.params = s.params) : u.latchOwns p = s.latchOwns p := by rw [State.latchOwns, hu]; rfl
  unfold State.ioWrite State.writeLatchPort
  rw [if_neg (by simpa [hown, imp_iff_not_or] using h)]
  simp

/-- Settles O56: the latch takes the write or it does not; the other devices leave the mapping. -/
theorem bankLatch : Obligations.BankLatch := by
  unfold Obligations.BankLatch
  intro s p v t owned locked
  have howned : s.latchOwns p = true ↔ owned := s.latchOwns_iff p
  have hlocked : s.latch.getLsbD 5 = true ↔ locked := by rw [← bit_toNat]
  refine ⟨fun ho hl => ?_, fun h => ?_, by simp [t]⟩
  · obtain ⟨hlatch, hram, hrom⟩ := s.ioWrite_latched v (howned.mpr ho) (eq_false_of_ne_true (mt hlocked.mp hl))
    refine ⟨hlatch, ?_, ?_⟩
    · rw [hram]
      simp [State.selectRamBank, apply_ite BitVec.toNat]
    · rw [hrom, bit_toNat]
      simp only [s.diskActive_iff]
  · refine s.ioWrite_notLatched v (h.imp (fun ho => ?_) hlocked.mpr)
    exact eq_false_of_ne_true (mt howned.mp ho)

/-! ## The ULA's port (R561) -/

section
variable (s : State) (p : Word) (v : Byte)

@[simp] theorem State.writeLatchPort_border : (s.writeLatchPort p v).ula.border = s.ula.border := by
  unfold State.writeLatchPort
  dsimp only
  repeat' split
  all_goals rfl

@[simp] theorem State.writeLatchPort_mic : (s.writeLatchPort p v).ula.mic = s.ula.mic := by
  unfold State.writeLatchPort
  dsimp only
  repeat' split
  all_goals rfl

@[simp] theorem State.writeLatchPort_beeper : (s.writeLatchPort p v).ula.beeper = s.ula.beeper := by
  unfold State.writeLatchPort
  dsimp only
  repeat' split
  all_goals rfl

end

/-- The bits of the byte a read answers: bits 7 and 5, the tape level in bit 6, and the keyboard bits below. -/
theorem Ula.getLsbD_portByte (u : Ula) (p : Word) (tape : Bool) :
    (u.portByte p tape).getLsbD 7 = true ∧ (u.portByte p tape).getLsbD 5 = true ∧ (u.portByte p tape).getLsbD 6 = tape ∧
      ∀ k < 5, (u.portByte p tape).getLsbD k = (u.keyBits p).getLsbD k := by
  unfold Ula.portByte
  generalize u.keyBits p = keys
  revert tape keys
  decide

/-- A keyboard bit is the AND of the rows whose select line is 0. -/
theorem Ula.getLsbD_keyBits (u : Ula) (p : Word) {k : Nat} (hk : k < 5) :
    (u.keyBits p).getLsbD k = decide (∀ row : Fin 8, p.getLsbD (8 + row) = false → (u.keys[row]).getLsbD k = true) := by
  have hrow (c : Bool) (v : BitVec 5) :
      (if c then BitVec.allOnes 5 else v).getLsbD k = true ↔ (c = false → v.getLsbD k = true) := by
    cases c with
    | false => simp
    | true => simpa using BitVec.getLsbD_allOnes.trans (decide_eq_true hk)
  rw [Bool.eq_iff_iff, decide_eq_true_iff]
  simp only [Ula.keyBits, BitVec.getLsbD_and, Bool.and_eq_true, hrow, Fin.forall_fin_succ, and_assoc]
  simp

/-- Settles O58: the latch's part of a write, which comes last, leaves the three fields. -/
theorem ulaPort : Obligations.UlaPort := by
  unfold Obligations.UlaPort
  intro s p v hp t b
  have hula : ulaOwns p = true := (ulaOwns_iff p).mpr hp
  obtain ⟨h7, h5, h6, hkeys⟩ := s.ula.getLsbD_portByte p (s.syncTape s.accessClk).tape.latch
  refine ⟨?_, ?_, ?_, h7, h5, h6, fun k hk => (hkeys k hk).trans (s.ula.getLsbD_keyBits p hk)⟩
  · simp [t, State.ioWrite, State.writeUlaPort, hula, Ula.write]
  · simp [t, State.ioWrite, State.writeUlaPort, hula, Ula.write, bit_toNat]
  · simp [t, State.ioWrite, State.writeUlaPort, hula, Ula.write, bit_toNat]

end Sys2Proof.Machine
end

section
/-! PROOFS. The decoder and the encoder (spec/30_encoding.md R130 to R157): an instruction's encoding is read back, and what is
read is the encoding of the answer. From these: O2, O4, O3 and O1. -/

namespace Sys2Proof

/-! ## Operands that name one of a few -/

/-- A bit number is one of eight: the case split of the instructions that carry one (R144). -/
theorem bitNumber_cases {P : BitVec 3 → Prop} (b : BitVec 3) (zero : P 0) (one : P 1) (two : P 2) (three : P 3) (four : P 4)
    (five : P 5) (six : P 6) (seven : P 7) : P b := by
  obtain ⟨k⟩ := b
  fin_cases k <;> assumption

theorem HReg.isHalf_iff {t : HReg} : t.isHalf = true ↔ t = .xh ∨ t = .xl := by cases t <;> decide

/-! ## An escape and its opcode (R151) -/

theorem decode_base {op : Byte} (h : Machine.isPrefixByte op = false) (rest : List Byte) :
    decode (op :: rest) = decodeBase op rest := by
  obtain ⟨hcb, hed, hdd, hfd⟩ := isPrefixByte_eq_false.mp h
  simp only [decode, if_neg hcb, if_neg hed, if_neg hdd, if_neg hfd]

theorem prefixByte?_of_base {op : Byte} (h : Machine.isPrefixByte op = false) : prefixByte? op = none := by
  obtain ⟨-, hed, hdd, hfd⟩ := isPrefixByte_eq_false.mp h
  rw [prefixByte?, if_neg hdd, if_neg hed, if_neg hfd]

/-- The byte is a base opcode that an index prefix escapes into (R151). -/
def escapeOpcode (x : IdxReg) (op : Byte) (rest : List Byte) : Bool :=
  !Machine.isPrefixByte op && (decodeIndexed x op rest).isNone

/-- The constraint on an escape's base instruction is the decoder's test of its opcode: no prefix byte, and no byte
that an index prefix changes. -/
theorem escapable_eq_escapeOpcode (x : IdxReg) (rest : List Byte) {i : Instr} {op : Byte} {args : List Byte}
    (h : encode i = op :: args) : i.escapable = escapeOpcode x op rest := by
  cases i with
  | incR r | decR r | ldRN r | ldRMHl r | ldMHlR r | addAR r | adcAR r | subR r | sbcAR r | andR r | xorR r | orR r
  | cpR r => cases h; cases x <;> cases r <;> rfl
  | ldRR t r => cases h; cases x <;> cases t <;> cases r <;> rfl
  | ldRrNn p | addHlRr p | incRr p | decRr p => cases h; cases x <;> cases p <;> rfl
  | popQq q | pushQq q => cases h; cases x <;> cases q <;> rfl
  | jrCc cc | retCc cc | jpCcNn cc | callCcNn cc => cases h; cases x <;> cases cc <;> rfl
  | rstP y => cases h; cases x <;> cases y using bitNumber_cases <;> rfl
  | addAXh x' | adcAXh x' | subXh x' | sbcAXh x' | andXh x' | xorXh x' | orXh x' | cpXh x' =>
    cases h; cases x <;> cases x' <;> rfl
  | _ => cases h; cases x <;> rfl

theorem wellFormed_of_escapable {i : Instr} (h : i.escapable = true) : i.wellFormed = true := by
  cases i with
  | retn | im0 | im1 | im2 | nopStar | ldRIxh | ldRIyh | ddEscape | fdEscape => cases h
  | _ => rfl

theorem encode_ne_nil (i : Instr) : encode i ≠ [] := by
  cases i <;> exact List.cons_ne_nil _ _

/-- An escape is read as its base instruction (R151). -/
theorem decodeXY_of_escapeOpcode {x : IdxReg} {op : Byte} {rest : List Byte} (h : escapeOpcode x op rest = true) :
    decodeXY x (op :: rest) = (decode (op :: rest)).map fun i => x.sel (.ddEscape i) (.fdEscape i) := by
  obtain ⟨hp, hi⟩ := (Bool.and_eq_true _ _).mp h
  have hp := (Bool.not_eq_true' _).mp hp
  obtain ⟨hcb, -⟩ := isPrefixByte_eq_false.mp hp
  simp only [decodeXY, prefixByte?_of_base hp, if_neg hcb, Option.isNone_iff_eq_none.mp hi, decode_base hp]

theorem decodeXY_encode {i : Instr} {rest : List Byte} (x : IdxReg) (he : i.escapable = true)
    (h : decode (encode i ++ rest) = .ok i) : decodeXY x (encode i ++ rest) = .ok (x.sel (.ddEscape i) (.fdEscape i)) := by
  obtain ⟨op, args, hop⟩ := List.exists_cons_of_ne_nil (encode_ne_nil i)
  rw [hop, List.cons_append] at h ⊢
  rw [decodeXY_of_escapeOpcode (escapable_eq_escapeOpcode x _ hop ▸ he), h]
  rfl

/-! ## The encoding is read back -/

/-- A word read from its two bytes (R141). -/
theorem decode_word (k : Word → Instr) (nn : Word) :
    (Except.ok (k (Word.ofBytes nn.hi nn.lo)) : Except DecodeError Instr) = .ok (k nn) := by
  rw [Machine.Word.ofBytes_hi_lo]

/-- The ED codes of the no-op are those no other row of the ED table takes (R154). -/
theorem decodeED_unassigned {op : Byte} (h : edUnassigned op = true) (rest : List Byte) :
    decodeED op rest = .ok (.nopStar op) := by
  have hop : (opX op ≠ 1 ∧ (opX op = 2 → decodeBlock op = .nopStar op)) ∨ op = 0x77 ∨ op = 0x7F := by
    revert op
    decide
  obtain ⟨h1, h2⟩ | rfl | rfl := hop
  · unfold decodeED
    split
    case h_1 hx => exact absurd hx h1
    case h_2 hx => rw [h2 hx]
    case h_3 => rfl
  · rfl
  · rfl

/-- Once every operand of a few values is fixed, the opcode is a number and the decoder computes. -/
theorem decode_encode {i : Instr} (hi : i.wellFormed = true) (rest : List Byte) : decode (encode i ++ rest) = .ok i := by
  induction i with
  | ddEscape j ih => exact decodeXY_encode .ix hi (ih (wellFormed_of_escapable hi))
  | fdEscape j ih => exact decodeXY_encode .iy hi (ih (wellFormed_of_escapable hi))
  -- registers
  | incR r | decR r | ldRN r | ldRMHl r | ldMHlR r | addAR r | adcAR r | subR r | sbcAR r | andR r | xorR r | orR r
  | cpR r | rlcR r | rrcR r | rlR r | rrR r | slaR r | sraR r | sllR r | srlR r | inRMC r | outMCR r | ldRMIxd r
  | ldMIxdR _ r | ldRMIyd r | ldMIydR _ r => cases r <;> rfl
  | ldRR t r => cases t <;> cases r <;> rfl
  | ldRIxh t r | ldRIyh t r =>
    obtain (rfl | rfl) | (rfl | rfl) := ((Bool.or_eq_true _ _).mp hi).imp HReg.isHalf_iff.mp HReg.isHalf_iff.mp
    · cases r <;> rfl
    · cases r <;> rfl
    · cases t <;> rfl
    · cases t <;> rfl
  -- pairs, conditions and halves
  | addHlRr p | incRr p | decRr p | sbcHlRr p | adcHlRr p | popQq p | pushQq p | addIxRr p | addIyRr p => cases p <;> rfl
  | jrCc cc | retCc cc => cases cc <;> rfl
  | incIxh h | decIxh h | ldIxhN h | incIyh h | decIyh h | ldIyhN h => cases h <;> rfl
  | addAXh x h | adcAXh x h | subXh x h | sbcAXh x h | andXh x h | xorXh x h | orXh x h | cpXh x h =>
    cases x <;> cases h <;> rfl
  -- words
  | ldRrNn p nn | ldMNnRr p nn | ldRrMNn p nn => cases p <;> exact decode_word _ nn
  | jpCcNn cc nn | callCcNn cc nn => cases cc <;> exact decode_word _ nn
  | ldMNnHl nn | ldMNnA nn | ldHlMNn nn | ldAMNn nn | jpNn nn | callNn nn | ldIxNn nn | ldMNnIx nn | ldIxMNn nn | ldIyNn nn
  | ldMNnIy nn | ldIyMNn nn => exact decode_word _ nn
  -- bit numbers and the `y` fields of duplicates
  | rstP b | bitBMHl b | resBMHl b | setBMHl b | neg b | resBMIxd b | setBMIxd b | resBMIyd b | setBMIyd b =>
    cases b using bitNumber_cases <;> rfl
  | bitBR b r | resBR b r | setBR b r | resBMIxdR b _ r | setBMIxdR b _ r | resBMIydR b _ r | setBMIydR b _ r =>
    cases b using bitNumber_cases <;> cases r <;> rfl
  | bitBMIxd b d z | bitBMIyd b d z => cases b using bitNumber_cases <;> cases z using bitNumber_cases <;> rfl
  | rotMIxdR o d r | rotMIydR o d r => cases o <;> cases r <;> rfl
  | im0 y =>
    obtain rfl | rfl | rfl | rfl : y = 0 ∨ y = 1 ∨ y = 4 ∨ y = 5 := by simpa [Instr.wellFormed, or_assoc] using hi
    all_goals rfl
  | im1 y =>
    obtain rfl | rfl : y = 2 ∨ y = 6 := by simpa [Instr.wellFormed] using hi
    all_goals rfl
  | im2 y =>
    obtain rfl | rfl : y = 3 ∨ y = 7 := by simpa [Instr.wellFormed] using hi
    all_goals rfl
  | retn y =>
    cases y using bitNumber_cases with
    | one => cases hi
    | _ => rfl
  | nopStar op => exact decodeED_unassigned hi rest
  | ddRedundant f | fdRedundant f => cases f <;> rfl
  | _ => rfl

/-- Settles O2, by cases on the instruction; an escape by its base instruction. -/
theorem decodeEncode : Obligations.DecodeEncode := by
  unfold Obligations.DecodeEncode
  exact fun i rest hi => decode_encode hi rest

/-! ## Fields, codes and the opcodes made of them (R132) -/

/-- An opcode is the byte the encoder makes of its fields. -/
theorem opc_of_fields {op : Byte} {x y z : Nat} (hx : opX op = x) (hy : opY op = y) (hz : opZ op = z) : opc x y z = op := by
  subst hx hy hz
  revert op
  decide

theorem opcPQ_of_fields {op : Byte} {x p q z : Nat} (hx : opX op = x) (hp : opP op = p) (hq : opQ op = q)
    (hz : opZ op = z) : opcPQ x p q z = op := by
  subst hx hp hq hz
  revert op
  decide

theorem opP_eq_three {op : Byte} (h0 : opP op ≠ 0) (h1 : opP op ≠ 1) (h2 : opP op ≠ 2) : opP op = 3 := by
  have : opP op < 4 := Nat.mod_lt _ (by decide)
  omega

theorem opZ_eq_seven {op : Byte} (h : ∀ z < 7, opZ op ≠ z) : opZ op = 7 := by
  have : opZ op < 8 := Nat.mod_lt _ (by decide)
  have := h (opZ op)
  omega

theorem opY_lt (op : Byte) : opY op < 8 := Nat.mod_lt _ (by decide)

theorem opY_eq_seven {op : Byte} (h : ∀ y < 7, opY op ≠ y) : opY op = 7 := by
  have := opY_lt op
  have := h (opY op)
  omega

theorem opYBits_toNat (op : Byte) : (opYBits op).toNat = opY op := by
  revert op
  decide

theorem opZBits_toNat (op : Byte) : (opZBits op).toNat = opZ op := by
  revert op
  decide

/-! A field that the decoder reads as an operand is the code that the encoder writes for it (R35, R38, R39, R137). -/

theorem code_of_reg8? {k : Nat} {r : Reg8} (h : reg8? k = some r) : k = r.code := by
  unfold reg8? at h
  split at h <;> cases h <;> rfl

theorem code_of_hreg? {k : Nat} {r : HReg} (h : hreg? k = some r) : k = r.code := by
  unfold hreg? at h
  split at h <;> cases h <;> rfl

theorem code_of_half? {k : Nat} {h : Half} (hk : half? k = some h) : k = h.code := by
  unfold half? at hk
  split at hk <;> cases hk <;> rfl

theorem code_regPairOf (op : Byte) : opP op = (regPairOf (opP op)).code := by
  revert op
  decide

theorem code_stackPairOf (op : Byte) : opP op = (stackPairOf (opP op)).code := by
  revert op
  decide

theorem code_idxPairOf (op : Byte) : opP op = (idxPairOf (opP op)).code := by
  revert op
  decide

theorem code_condOf (op : Byte) : opY op = (condOf (opY op)).code := by
  revert op
  decide

theorem code_jrCondOf {op : Byte} (h : ∀ y < 4, opY op ≠ y) : opY op = (jrCondOf (opY op)).code := by
  revert op
  decide

theorem code_rotOf (op : Byte) : opY op = (rotOf (opY op)).code := by
  revert op
  decide

theorem byte_of_prefixByte? {b : Byte} {f : PrefixByte} (h : prefixByte? b = some f) : f.byte = b := by
  unfold prefixByte? at h
  repeat' split at h
  all_goals cases h
  all_goals exact Eq.symm ‹_›

/-! ## What is read is the encoding of the answer -/

/-- The instruction is well formed and `bytes` are its encoding. -/
def Instr.SpelledBy (i : Instr) (bytes : List Byte) : Prop := i.wellFormed = true ∧ encode i = bytes

/-- The answer `r`, read behind the bytes `pre` from the opcode `op` and from `rest`, is well formed, and what was read is its
encoding. -/
def Spells (pre : List Byte) (op : Byte) (rest : List Byte) (r : Except DecodeError Instr) : Prop :=
  ∀ i, r = .ok i → i.wellFormed = true ∧ encode i <+: pre ++ op :: rest

section
variable {pre rest : List Byte} {op b : Byte}

/-! The four ways a table answers: an error, an instruction without operand bytes, and one with one or two of them. `b` is the
opcode as the encoder writes it. -/

theorem Spells.error (e : DecodeError) : Spells pre op rest (.error e) := nofun

theorem Spells.of_args {i : Instr} {args tail : List Byte} (hop : b = op) (h : i.SpelledBy (pre ++ b :: args))
    (hr : rest = args ++ tail) : Spells pre op rest (.ok i) := by
  rintro _ ⟨rfl⟩
  exact ⟨h.1, tail, by simp [h.2, hop, hr]⟩

theorem Spells.ok {i : Instr} (hop : b = op) (h : i.SpelledBy (pre ++ [b])) : Spells pre op rest (.ok i) :=
  .of_args hop h rfl

theorem Spells.arg1 {k : Byte → Instr} (hop : b = op) (h : ∀ n, (k n).SpelledBy (pre ++ [b, n])) :
    Spells pre op rest (arg1 rest k) :=
  match rest with
  | [] => .error _
  | n :: _ => .of_args hop (h n) rfl

theorem Spells.arg2 {k : Byte → Byte → Instr} (hop : b = op) (h : ∀ m n, (k m n).SpelledBy (pre ++ [b, m, n])) :
    Spells pre op rest (arg2 rest k) :=
  match rest with
  | [] => .error _
  | [_] => .error _
  | m :: n :: _ => .of_args hop (h m n) rfl

theorem Word.ofBytes_lo (h l : Byte) : (Word.ofBytes h l).lo = l := BitVec.extractLsb'_append_eq_right

theorem Word.ofBytes_hi (h l : Byte) : (Word.ofBytes h l).hi = h := BitVec.extractLsb'_append_eq_left

theorem Spells.argW {k : Word → Instr} (hop : b = op) (h : ∀ nn, (k nn).SpelledBy (pre ++ [b, nn.lo, nn.hi])) :
    Spells pre op rest (argW rest k) :=
  .arg2 hop fun l u => by simpa only [Word.ofBytes_lo, Word.ofBytes_hi] using h (Word.ofBytes u l)

end

section
variable {op : Byte} {rest : List Byte}

/-! ### The base table (R133 to R136) -/

theorem decodeBase0_spells (hx : opX op = 0) : Spells [] op rest (decodeBase0 op rest) := by
  unfold decodeBase0
  split
  case h_1 hz =>
    split
    case h_1 hy | h_2 hy => exact .ok (opc_of_fields hx hy hz) ⟨rfl, rfl⟩
    case h_3 hy | h_4 hy => exact .arg1 (opc_of_fields hx hy hz) fun _ => ⟨rfl, rfl⟩
    case h_5 => exact .arg1 (opc_of_fields hx (code_jrCondOf (by grind)) hz) fun _ => ⟨rfl, rfl⟩
  case h_2 hz =>
    split
    case h_1 hq => exact .argW (opcPQ_of_fields hx (code_regPairOf op) hq hz) fun _ => ⟨rfl, rfl⟩
    case h_2 hq => exact .ok (opcPQ_of_fields hx (code_regPairOf op) (opQ_eq_one hq) hz) ⟨rfl, rfl⟩
  case h_3 hz =>
    split
    case h_1 hq hp | h_2 hq hp => exact .ok (opcPQ_of_fields hx hp hq hz) ⟨rfl, rfl⟩
    case h_3 hq hp => exact .argW (opcPQ_of_fields hx hp hq hz) fun _ => ⟨rfl, rfl⟩
    case h_4 hq h0 h1 h2 => exact .argW (opcPQ_of_fields hx (opP_eq_three h0 h1 h2) hq hz) fun _ => ⟨rfl, rfl⟩
    case h_5 hp hq | h_6 hp hq => exact .ok (opcPQ_of_fields hx hp (opQ_eq_one hq) hz) ⟨rfl, rfl⟩
    case h_7 hp hq => exact .argW (opcPQ_of_fields hx hp (opQ_eq_one hq) hz) fun _ => ⟨rfl, rfl⟩
    case h_8 hq h0 h1 h2 _ _ _ =>
      exact .argW (opcPQ_of_fields hx (opP_eq_three h0 h1 h2) (opQ_eq_one hq) hz) fun _ => ⟨rfl, rfl⟩
  case h_4 hz =>
    split
    case h_1 hq => exact .ok (opcPQ_of_fields hx (code_regPairOf op) hq hz) ⟨rfl, rfl⟩
    case h_2 hq => exact .ok (opcPQ_of_fields hx (code_regPairOf op) (opQ_eq_one hq) hz) ⟨rfl, rfl⟩
  case h_5 hz | h_6 hz =>
    split
    case h_1 r hr => exact .ok (opc_of_fields hx (code_of_reg8? hr) hz) ⟨rfl, rfl⟩
    case h_2 hm => exact .ok (opc_of_fields hx (opY_of_memory hm) hz) ⟨rfl, rfl⟩
  case h_7 hz =>
    split
    case h_1 r hr => exact .arg1 (opc_of_fields hx (code_of_reg8? hr) hz) fun _ => ⟨rfl, rfl⟩
    case h_2 hm => exact .arg1 (opc_of_fields hx (opY_of_memory hm) hz) fun _ => ⟨rfl, rfl⟩
  case h_8 =>
    have hz : opZ op = 7 := opZ_eq_seven (by grind)
    split
    case h_8 => exact .ok (opc_of_fields hx (opY_eq_seven (by grind)) hz) ⟨rfl, rfl⟩
    all_goals exact .ok (opc_of_fields hx ‹_› hz) ⟨rfl, rfl⟩

theorem aluR_spelledBy {y : Nat} (hy : y < 8) (r : Reg8) : (aluR y r).SpelledBy [opc 2 y r.code] := by
  interval_cases y <;> exact ⟨rfl, rfl⟩

theorem aluMHl_spelledBy {y : Nat} (hy : y < 8) : (aluMHl y).SpelledBy [opc 2 y 6] := by
  interval_cases y <;> exact ⟨rfl, rfl⟩

theorem aluN_spelledBy {y : Nat} (hy : y < 8) (n : Byte) : (aluN y n).SpelledBy [opc 3 y 6, n] := by
  interval_cases y <;> exact ⟨rfl, rfl⟩

theorem decodeBase1_spelledBy (hx : opX op = 1) : (decodeBase1 op).SpelledBy [op] := by
  refine ⟨decodeBase1_wellFormed op, ?_⟩
  revert op
  decide

theorem decodeBase3_spells (hx : opX op = 3) : Spells [] op rest (decodeBase3 op rest) := by
  unfold decodeBase3
  split
  case h_1 hz => exact .ok (opc_of_fields hx (code_condOf op) hz) ⟨rfl, rfl⟩
  case h_2 hz =>
    split
    case h_1 hq => exact .ok (opcPQ_of_fields hx (code_stackPairOf op) hq hz) ⟨rfl, rfl⟩
    case h_2 hp hq | h_3 hp hq | h_4 hp hq => exact .ok (opcPQ_of_fields hx hp (opQ_eq_one hq) hz) ⟨rfl, rfl⟩
    case h_5 hq h0 h1 h2 => exact .ok (opcPQ_of_fields hx (opP_eq_three h0 h1 h2) (opQ_eq_one hq) hz) ⟨rfl, rfl⟩
  case h_3 hz => exact .argW (opc_of_fields hx (code_condOf op) hz) fun _ => ⟨rfl, rfl⟩
  case h_4 hz =>
    split
    case h_1 hy => exact .argW (opc_of_fields hx hy hz) fun _ => ⟨rfl, rfl⟩
    case h_2 => exact .error _
    case h_3 hy | h_4 hy => exact .arg1 (opc_of_fields hx hy hz) fun _ => ⟨rfl, rfl⟩
    case h_5 hy | h_6 hy | h_7 hy => exact .ok (opc_of_fields hx hy hz) ⟨rfl, rfl⟩
    case h_8 => exact .ok (opc_of_fields hx (opY_eq_seven (by grind)) hz) ⟨rfl, rfl⟩
  case h_5 hz => exact .argW (opc_of_fields hx (code_condOf op) hz) fun _ => ⟨rfl, rfl⟩
  case h_6 hz =>
    split
    case h_1 hq => exact .ok (opcPQ_of_fields hx (code_stackPairOf op) hq hz) ⟨rfl, rfl⟩
    case h_2 hp hq => exact .argW (opcPQ_of_fields hx hp (opQ_eq_one hq) hz) fun _ => ⟨rfl, rfl⟩
    case h_3 => exact .error _
  case h_7 hz => exact .arg1 (opc_of_fields hx rfl hz) (aluN_spelledBy (opY_lt op))
  case h_8 => exact .ok (opc_of_fields hx (opYBits_toNat op).symm (opZ_eq_seven (by grind))) ⟨rfl, rfl⟩

theorem decodeBase_spells (op : Byte) (rest : List Byte) : Spells [] op rest (decodeBase op rest) := by
  unfold decodeBase
  split
  case h_1 hx => exact decodeBase0_spells hx
  case h_2 hx => exact .ok rfl (decodeBase1_spelledBy hx)
  case h_3 hx =>
    split
    case h_1 r hr => exact .ok (opc_of_fields hx rfl (code_of_reg8? hr)) (aluR_spelledBy (opY_lt op) r)
    case h_2 hm => exact .ok (opc_of_fields hx rfl (opZ_of_memory hm)) (aluMHl_spelledBy (opY_lt op))
  case h_4 h0 h1 h2 => exact decodeBase3_spells (opX_eq_three h0 h1 h2)

/-! ### The CB and ED tables (R137 to R139, R154) -/

theorem decodeCB_spelledBy (op : Byte) : (decodeCB op).SpelledBy [0xCB, op] := by
  refine ⟨decodeCB_wellFormed op, ?_⟩
  revert op
  decide

theorem decodeIM_spelledBy (hx : opX op = 1) (hz : opZ op = 6) : (decodeIM op).SpelledBy [0xED, op] := by
  refine ⟨decodeIM_wellFormed op, ?_⟩
  revert op
  decide

theorem decodeED7_spelledBy (hx : opX op = 1) (hz : opZ op = 7) : (decodeED7 op).SpelledBy [0xED, op] := by
  refine ⟨decodeED7_wellFormed hx (by omega), ?_⟩
  revert op
  decide

theorem decodeBlock_spelledBy (hx : opX op = 2) : (decodeBlock op).SpelledBy [0xED, op] := by
  refine ⟨decodeBlock_wellFormed hx, ?_⟩
  revert op
  decide

theorem decodeED_spells (op : Byte) (rest : List Byte) : Spells [0xED] op rest (decodeED op rest) := by
  unfold decodeED
  split
  case h_1 hx =>
    split
    case h_1 hz | h_2 hz =>
      split
      case h_1 r hr => exact .ok (opc_of_fields hx (code_of_reg8? hr) hz) ⟨rfl, rfl⟩
      case h_2 hm => exact .ok (opc_of_fields hx (opY_of_memory hm) hz) ⟨rfl, rfl⟩
    case h_3 hz =>
      split
      case h_1 hq => exact .ok (opcPQ_of_fields hx (code_regPairOf op) hq hz) ⟨rfl, rfl⟩
      case h_2 hq => exact .ok (opcPQ_of_fields hx (code_regPairOf op) (opQ_eq_one hq) hz) ⟨rfl, rfl⟩
    case h_4 hz =>
      split
      case h_1 hq => exact .argW (opcPQ_of_fields hx (code_regPairOf op) hq hz) fun _ => ⟨rfl, rfl⟩
      case h_2 hq => exact .argW (opcPQ_of_fields hx (code_regPairOf op) (opQ_eq_one hq) hz) fun _ => ⟨rfl, rfl⟩
    case h_5 hz => exact .ok (opc_of_fields hx (opYBits_toNat op).symm hz) ⟨rfl, rfl⟩
    case h_6 hz =>
      split
      case h_1 hy => exact .ok (opc_of_fields hx hy hz) ⟨rfl, rfl⟩
      case h_2 hy => exact .ok (opc_of_fields hx (opYBits_toNat op).symm hz) ⟨retn_wellFormed hy, rfl⟩
    case h_7 hz => exact .ok rfl (decodeIM_spelledBy hx hz)
    case h_8 => exact .ok rfl (decodeED7_spelledBy hx (opZ_eq_seven (by grind)))
  case h_2 hx => exact .ok rfl (decodeBlock_spelledBy hx)
  case h_3 h1 h2 => exact .ok rfl ⟨nopStar_wellFormed h1 h2, rfl⟩

/-! ### Behind an index prefix (R150 to R153) -/

theorem Instr.SpelledBy.sel {x : IdxReg} {i j : Instr} {bytes : List Byte} (hi : i.SpelledBy (0xDD :: bytes))
    (hj : j.SpelledBy (0xFD :: bytes)) : (x.sel i j).SpelledBy (x.byte :: bytes) := by
  cases x with
  | ix => exact hi
  | iy => exact hj

theorem decodeIndexed0_spells {x : IdxReg} {r : Except DecodeError Instr} (hx : opX op = 0)
    (h : decodeIndexed0 x op rest = some r) : Spells [x.byte] op rest r := by
  unfold decodeIndexed0 at h
  split at h
  case h_1 hz =>
    split at h
    case h_1 hq hp => cases h; exact .argW (opcPQ_of_fields hx hp hq hz) fun _ => .sel ⟨rfl, rfl⟩ ⟨rfl, rfl⟩
    case h_2 => cases h
    case h_3 hq _ =>
      cases h
      exact .ok (opcPQ_of_fields hx (code_idxPairOf op) (opQ_eq_one hq) hz) (.sel ⟨rfl, rfl⟩ ⟨rfl, rfl⟩)
  case h_2 hz =>
    split at h
    case h_1 hq hp | h_2 hq hp => cases h; exact .argW (opcPQ_of_fields hx hp hq hz) fun _ => .sel ⟨rfl, rfl⟩ ⟨rfl, rfl⟩
    case h_3 => cases h
  case h_3 hz =>
    split at h
    case h_1 hq hp | h_2 hq hp => cases h; exact .ok (opcPQ_of_fields hx hp hq hz) (.sel ⟨rfl, rfl⟩ ⟨rfl, rfl⟩)
    case h_3 => cases h
  case h_4 hz | h_5 hz =>
    split at h
    case h_1 f hf => cases h; exact .ok (opc_of_fields hx (code_of_half? hf) hz) (.sel ⟨rfl, rfl⟩ ⟨rfl, rfl⟩)
    case h_2 hy => cases h; exact .arg1 (opc_of_fields hx hy hz) fun _ => .sel ⟨rfl, rfl⟩ ⟨rfl, rfl⟩
    case h_3 => cases h
  case h_6 hz =>
    split at h
    case h_1 f hf => cases h; exact .arg1 (opc_of_fields hx (code_of_half? hf) hz) fun _ => .sel ⟨rfl, rfl⟩ ⟨rfl, rfl⟩
    case h_2 hy => cases h; exact .arg2 (opc_of_fields hx hy hz) fun _ _ => .sel ⟨rfl, rfl⟩ ⟨rfl, rfl⟩
    case h_3 => cases h
  case h_7 => cases h

theorem decodeIndexed1_spells {x : IdxReg} {r : Except DecodeError Instr} (hx : opX op = 1)
    (h : decodeIndexed1 x op rest = some r) : Spells [x.byte] op rest r := by
  unfold decodeIndexed1 at h
  split at h
  case h_1 => cases h
  case h_2 r hy hr =>
    cases h
    exact .arg1 (opc_of_fields hx (opY_of_memory hy) (code_of_reg8? hr)) fun _ => .sel ⟨rfl, rfl⟩ ⟨rfl, rfl⟩
  case h_3 r hr hm =>
    cases h
    exact .arg1 (opc_of_fields hx (code_of_reg8? hr) (opZ_of_memory hm)) fun _ => .sel ⟨rfl, rfl⟩ ⟨rfl, rfl⟩
  case h_4 =>
    split at h
    case h_1 t r ht hr =>
      split at h
      case isTrue hh =>
        cases h
        exact .ok (opc_of_fields hx (code_of_hreg? ht) (code_of_hreg? hr)) (.sel ⟨hh, rfl⟩ ⟨hh, rfl⟩)
      case isFalse => cases h
    case h_2 => cases h

theorem aluXh_spelledBy {y : Nat} (hy : y < 8) (x : IdxReg) (h : Half) : (aluXh x y h).SpelledBy [x.byte, opc 2 y h.code] := by
  interval_cases y <;> exact ⟨rfl, rfl⟩

theorem aluMXd_spelledBy {y : Nat} (hy : y < 8) (x : IdxReg) (d : Byte) : (aluMXd x y d).SpelledBy [x.byte, opc 2 y 6, d] := by
  cases x <;> interval_cases y <;> exact ⟨rfl, rfl⟩

theorem decodeIndexed2_spells {x : IdxReg} {r : Except DecodeError Instr} (hx : opX op = 2)
    (h : decodeIndexed2 x op rest = some r) : Spells [x.byte] op rest r := by
  unfold decodeIndexed2 at h
  split at h
  case h_1 f hf => cases h; exact .ok (opc_of_fields hx rfl (code_of_half? hf)) (aluXh_spelledBy (opY_lt op) x f)
  case h_2 hz => cases h; exact .arg1 (opc_of_fields hx rfl hz) (aluMXd_spelledBy (opY_lt op) x)
  case h_3 => cases h

theorem decodeIndexed3_spelledBy {x : IdxReg} {i : Instr} (hx : opX op = 3) (h : decodeIndexed3 x op = some i) :
    i.SpelledBy [x.byte, op] := by
  refine ⟨decodeIndexed3_wellFormed h, ?_⟩
  unfold decodeIndexed3 at h
  split at h
  case h_6 => cases h
  all_goals
    cases h
    rw [← opc_of_fields hx ‹_› ‹_›]
    cases x <;> rfl

theorem decodeIndexed_spells {x : IdxReg} {r : Except DecodeError Instr} (h : decodeIndexed x op rest = some r) :
    Spells [x.byte] op rest r := by
  unfold decodeIndexed at h
  split at h
  case h_1 hx => exact decodeIndexed0_spells hx h
  case h_2 hx => exact decodeIndexed1_spells hx h
  case h_3 hx => exact decodeIndexed2_spells hx h
  case h_4 h0 h1 h2 =>
    obtain ⟨i, hi, rfl⟩ := Option.map_eq_some_iff.mp h
    exact .ok rfl (decodeIndexed3_spelledBy (opX_eq_three h0 h1 h2) hi)

theorem rotMXd_spelledBy (x : IdxReg) (o : Rot) (d : Byte) : (rotMXd x o d).SpelledBy [x.byte, 0xCB, d, opc 0 o.code 6] := by
  cases x <;> cases o <;> exact ⟨rfl, rfl⟩

theorem Instr.SpelledBy.last {i : Instr} {p d b : Byte} (hop : b = op) (h : i.SpelledBy [p, 0xCB, d, b]) :
    i.SpelledBy [p, 0xCB, d, op] := hop ▸ h

theorem decodeXCB_spelledBy (x : IdxReg) (d op : Byte) : (decodeXCB x d op).SpelledBy [x.byte, 0xCB, d, op] := by
  have hb := (opYBits_toNat op).symm
  unfold decodeXCB
  dsimp only
  split
  case h_1 hx hm => exact .last (opc_of_fields hx (code_rotOf op) (opZ_of_memory hm)) (rotMXd_spelledBy ..)
  case h_2 r hx hr => exact .last (opc_of_fields hx (code_rotOf op) (code_of_reg8? hr)) (.sel ⟨rfl, rfl⟩ ⟨rfl, rfl⟩)
  case h_3 hx => exact .last (opc_of_fields hx hb (opZBits_toNat op).symm) (.sel ⟨rfl, rfl⟩ ⟨rfl, rfl⟩)
  case h_4 hx hm => exact .last (opc_of_fields hx hb (opZ_of_memory hm)) (.sel ⟨rfl, rfl⟩ ⟨rfl, rfl⟩)
  case h_5 r hx hr => exact .last (opc_of_fields hx hb (code_of_reg8? hr)) (.sel ⟨rfl, rfl⟩ ⟨rfl, rfl⟩)
  case h_6 hm h0 h1 h2 =>
    exact .last (opc_of_fields (opX_eq_three h0 h1 h2) hb (opZ_of_memory hm)) (.sel ⟨rfl, rfl⟩ ⟨rfl, rfl⟩)
  case h_7 r hr h0 h1 h2 =>
    exact .last (opc_of_fields (opX_eq_three h0 h1 h2) hb (code_of_reg8? hr)) (.sel ⟨rfl, rfl⟩ ⟨rfl, rfl⟩)

/-- What is read behind a prefix that escapes is the escape of what the base table reads (R151). -/
theorem escape_spells {x : IdxReg} {i : Instr} (he : escapeOpcode x op rest = true)
    (h : (decodeBase op rest).map (fun i => x.sel (.ddEscape i) (.fdEscape i)) = .ok i) :
    i.wellFormed = true ∧ encode i <+: x.byte :: op :: rest := by
  cases hj : decodeBase op rest with
  | error e =>
    rw [hj] at h
    cases h
  | ok j =>
    rw [hj] at h
    cases h
    obtain ⟨b, args, hb⟩ := List.exists_cons_of_ne_nil (encode_ne_nil j)
    have hpre : encode j <+: op :: rest := (decodeBase_spells op rest j hj).2
    have hop : b = op := (List.cons_prefix_cons.mp (hb ▸ hpre)).1
    have hesc : j.escapable = true := (escapable_eq_escapeOpcode x rest hb).trans (hop ▸ he)
    cases x with
    | ix => exact ⟨hesc, List.cons_prefix_cons.mpr ⟨rfl, hpre⟩⟩
    | iy => exact ⟨hesc, List.cons_prefix_cons.mpr ⟨rfl, hpre⟩⟩

theorem decodeXY_spells {x : IdxReg} {i : Instr} (h : decodeXY x rest = .ok i) :
    i.wellFormed = true ∧ encode i <+: x.byte :: rest := by
  cases rest with
  | nil => cases h
  | cons b rest =>
    unfold decodeXY at h
    dsimp only at h
    split at h
    case h_1 f hf =>
      cases h
      rw [← byte_of_prefixByte? hf]
      exact ⟨by cases x <;> rfl, rest, by cases x <;> rfl⟩
    case h_2 hb =>
      split at h
      case isTrue hcb =>
        have hxcb : Spells [x.byte] b rest (arg2 rest (decodeXCB x)) := .arg2 rfl (hcb ▸ decodeXCB_spelledBy x)
        exact hxcb i h
      case isFalse hcb =>
        split at h
        case h_1 r hr => exact decodeIndexed_spells hr i h
        case h_2 hn =>
          have hp := isPrefixByte_of_prefixByte? hb hcb
          exact escape_spells (by simp [escapeOpcode, hp, hn]) h

/-- What the decoder reads is the encoding of its answer: the tables by their prefix bytes (R131). -/
theorem decode_spells {bytes : List Byte} {i : Instr} (h : decode bytes = .ok i) :
    i.wellFormed = true ∧ encode i <+: bytes := by
  cases bytes with
  | nil => cases h
  | cons b rest =>
    unfold decode at h
    dsimp only at h
    split at h
    case isTrue hb =>
      have hcb : Spells [] b rest (arg1 rest decodeCB) := .arg1 rfl (hb ▸ decodeCB_spelledBy)
      exact hcb i h
    case isFalse hcb =>
      split at h
      case isTrue hb =>
        subst hb
        split at h
        · cases h
        · exact decodeED_spells _ _ i h
      case isFalse hed =>
        split at h
        case isTrue hb => exact hb ▸ decodeXY_spells h
        case isFalse hdd =>
          split at h
          case isTrue hb => exact hb ▸ decodeXY_spells h
          case isFalse hfd => exact decodeBase_spells b rest i h

end

/-- Settles O4, by the tables of the decoder: in every row the fields of the opcode are the codes of the answer's operands. -/
theorem encodeDecode : Obligations.EncodeDecode := by
  unfold Obligations.EncodeDecode
  exact fun bytes i h => decode_spells h

/-! ## Every four bytes, and sample words -/

/-- Settles O3: the four bytes decode by `decode_wellFormed`. -/
theorem everySequenceDecodes : Obligations.EverySequenceDecodes := by
  unfold Obligations.EverySequenceDecodes
  exact decode_wellFormed

/-- Settles O1: each word is run through the decoder. -/
theorem sampleWordsDecode : Obligations.SampleWordsDecode := by
  unfold Obligations.SampleWordsDecode
  and_intros <;> rfl

end Sys2Proof
end

section
/-! PROOFS. Instructions behind the prefixes (spec/30_encoding.md R151, R152; spec/46_rotate_shift.md R384 to R393;
spec/47_bit.md R410 to R418): the escapes, the rotates and shifts of memory, and the bits. From these: O43, O47, O49 and O50. -/

namespace Sys2Proof.Machine

open Claims

/-! ## Escapes (R151) -/

/-- An escape does what its base instruction does and is then charged for the escape's own row. -/
theorem escapeInto_eq {row i : Instr} {s t : State} (he : i.escapable = true) (ht : exec i s = .next t) :
    escapeInto row i s = .next (t.tick (s.tstates row)) := by
  have hp : t.params = s.params := (State.fixed_eq_iff.mp (exec_fixed ht)).1
  rw [escapeInto, if_pos he, execPlain_eq_exec he, ht]
  simp only [State.charge, State.tstates, hp]

/-- Settles O43: an escapable instruction is well formed, so it runs. -/
theorem escapes : Obligations.Escapes := by
  unfold Obligations.Escapes
  intro s i he
  obtain ⟨t, ht⟩ := exec_goesOn (wellFormed_of_escapable he) s
  exact ⟨t, ht, escapeInto_eq he ht, escapeInto_eq he ht, rfl, rfl⟩

/-! ## The frame of a charged instruction -/

/-- The effect of a store of a byte (R87): the byte at its location, and the raster. -/
theorem State.writeByte_stores (s : State) (a : Word) (v : Byte) : Stores [] s (s.writeByte a v) [(a, v)] where
  core := by
    rw [State.writeByte_cpu]
    constructor <;> simp
  stored b w hb := by
    obtain ⟨rfl, rfl⟩ := Prod.mk_inj.mp (List.mem_singleton.mp hb)
    rw [State.writeByte_mem, Memory.read_write_same]
  elsewhere k hk := by
    rw [State.writeByte_mem, Memory.read_write_other _ v (hk a v (List.mem_singleton_self _))]
  reads p hp := by
    rw [State.readByte_writeByte, if_neg (hp a v (List.mem_singleton_self _))]
  raster := by
    rw [State.writeByte_ula]
    simp
  others := by
    rw [State.writeByte_eq]

section
variable {i : Instr} {s u : State} {ws : List Cell} {cost : Nat} {P : State → Prop}
  (he : exec i s = .next (u.charge i)) (hc : i.tstates = cost) (hclk : u.cpu.clk = s.cpu.clk)
  (hk : Keeps (.clk :: ws) s.cpu (u.charge i).cpu)
include he hc hclk hk

/-- An instruction that is charged after an effect on the core alone. -/
theorem does_of_charge (hu : CoreOnly s u) (hP : P (u.charge i)) : Does i s ws cost P := by
  have hp : u.params = s.params := by rw [hu]
  exact ⟨_, he, ⟨by simp [State.tstates, hp, hclk], hc⟩, ⟨hk, hu.tick _⟩, hP⟩

/-- An instruction that is charged after a store of a byte and an effect on the core alone. -/
theorem doesStore_of_charge {a : Word} {v : Byte} (hu : CoreOnly (s.writeByte a v) u) (hP : P (u.charge i)) :
    DoesStore i s ws cost [(a, v)] P := by
  have hp : u.params = s.params := by rw [hu, State.writeByte_params]
  exact ⟨_, he, ⟨by simp [State.tstates, hp, hclk], hc⟩, stores_of_core (s.writeByte_stores a v) hk (hu.tick _), hP⟩

end

/-- The effective address of R142 in the words of the rule. -/
theorem State.ea_eq (s : State) (x : IdxReg) (d : Byte) : s.ea x d = plusSigned (s.xy x) d := by
  rw [State.ea, plusSigned, BitVec.ofInt_add, Byte.sext, BitVec.signExtend]
  congr 1
  simp

@[simp] theorem State.reg8_setReg8 (s : State) (r : Reg8) (v : Byte) : (s.setReg8 r v).reg8 r = v := by cases r <;> rfl
@[simp] theorem State.reg8_setMemptr (s : State) (r : Reg8) (v : Word) : (s.setMemptr v).reg8 r = s.reg8 r := by cases r <;> rfl
@[simp] theorem State.reg8_charge (s : State) (i : Instr) (r : Reg8) : (s.charge i).reg8 r = s.reg8 r := by cases r <;> rfl

/-! ## Rotates and shifts (R384 to R393) -/

/-- The number that a rotate or shift leaves, and the bit it shifts out. -/
theorem refShift_eq (o : Rot) : ∀ (v : Byte) (c : Bool),
    refShift o v.toNat c.toNat = ((rotate o v c).1.toNat, (rotate o v c).2.toNat) := by
  cases o <;> decide

theorem flagC_toNat : ∀ f : Byte, (flagC f).toNat = f.toNat % 2 := by decide

theorem byte_beq_zero (v : Byte) : (v == 0) = (v.toNat == 0) := by
  rw [Bool.eq_iff_iff, beq_iff_eq, beq_iff_eq, BitVec.toNat_eq]
  rfl

/-- The flags of R12 by the bits of the number. -/
theorem szxypF_eq (v : Byte) (h n c : Bool) :
    szxypF v h n c =
      flagByte (bit v.toNat 7) (v.toNat == 0) (bit v.toNat 5) h (bit v.toNat 3) (evenParity v.toNat) n c := by
  simp only [szxypF, szxyF, packF_eq, parity_eq, byte_beq_zero, bit_toNat]

theorem refRot_eq (o : Rot) (v f : Byte) : refRot o v f = ((rot8 o v f).r, (rot8 o v f).f) := by
  have hc (c : Bool) : (c.toNat == 1) = c := by cases c <;> rfl
  simp only [refRot, ← flagC_toNat, refShift_eq, rot8, szxypF_eq, hc, BitVec.ofNat_toNat, BitVec.setWidth_eq]

/-! What the instructions of the group mean, and their costs. -/

theorem exec_rotHlInstr (o : Rot) (s : State) :
    exec (rotHlInstr o) s = .next ((s.rotMem o s.hl).charge (rotHlInstr o)) ∧ (rotHlInstr o).tstates = 15 := by
  cases o <;> exact ⟨rfl, rfl⟩

theorem exec_rotIdxInstr (o : Rot) (x : IdxReg) (d : Byte) (s : State) :
    exec (rotIdxInstr o x d) s = .next (((s.rotMem o (s.ea x d)).setMemptr (s.ea x d)).charge (rotIdxInstr o x d)) ∧
      (rotIdxInstr o x d).tstates = 23 := by
  cases o <;> cases x <;> exact ⟨rfl, rfl⟩

theorem exec_rotMXdR (o : Rot) (x : IdxReg) (d : Byte) (r : Reg8) (s : State) :
    let i := x.sel (.rotMIxdR o d r) (.rotMIydR o d r)
    exec i s = .next ((s.rotMemReg x o d r).charge i) ∧ i.tstates = 23 := by
  cases x <;> exact ⟨rfl, rfl⟩

/-- Settles O47: a store of the result, then F, and MEMPTR and a register in the indexed forms. -/
theorem rotateMemory : Obligations.RotateMemory := by
  unfold Obligations.RotateMemory
  intro s o x d r
  simp only [← State.ea_eq, refRot_eq]
  refine ⟨?_, ?_, ?_⟩
  · obtain ⟨he, hc⟩ := exec_rotHlInstr o s
    refine doesStore_of_charge he hc ?_ ?_ ((CoreOnly.refl _).setF _) rfl
    · simp [State.rotMem]
    · constructor <;> simp [State.rotMem]
  · obtain ⟨he, hc⟩ := exec_rotIdxInstr o x d s
    refine doesStore_of_charge he hc ?_ ?_ (((CoreOnly.refl _).setF _).setMemptr _) ⟨rfl, rfl⟩
    · simp [State.rotMem]
    · constructor <;> simp [State.rotMem]
  · obtain ⟨he, hc⟩ := exec_rotMXdR o x d r s
    refine doesStore_of_charge he hc ?_ ?_ ((((CoreOnly.refl _).setF _).setReg8 r _).setMemptr _) ⟨?_, rfl, ?_⟩
    · cases r <;> simp [State.rotMem, State.rotMemReg, State.setReg8]
    · cases r <;> constructor <;> simp [State.rotMem, State.rotMemReg, State.setReg8, regCell]
    · cases r <;> rfl
    · simp [State.rotMemReg]

/-! ## Bits (R410 to R418) -/

theorem refBit_eq (b : BitVec 3) (v f : Byte) (y x : Bool) : refBit b v f y x = bitF b v f y x := by
  have h7 : (b == 7 && v.getLsbD 7) = (b == 7 && v.getLsbD b.toNat) := by
    cases b using bitNumber_cases <;> rfl
  simp only [bitF, packF_eq, refBit, bit_toNat, h7, flagC]

theorem exec_bitMXd (x : IdxReg) (b : BitVec 3) (d : Byte) (z : BitVec 3) (s : State) :
    let i := x.sel (.bitBMIxd b d z) (.bitBMIyd b d z)
    exec i s = .next ((s.bitIndexed x b d).charge i) ∧ i.tstates = 20 := by
  cases x <;> exact ⟨rfl, rfl⟩

/-- Settles O49: F alone changes, and MEMPTR for an indexed byte. -/
theorem bitTest : Obligations.BitTest := by
  unfold Obligations.BitTest
  intro s b z r x d
  simp only [← State.ea_eq, refBit_eq, bit_toNat]
  refine ⟨?_, ?_, ?_⟩
  · refine does_of_charge rfl rfl rfl ?_ ((CoreOnly.refl _).setF _) rfl
    constructor <;> simp
  · refine does_of_charge rfl rfl rfl ?_ ((CoreOnly.refl _).setF _) rfl
    constructor <;> simp
  · obtain ⟨he, hc⟩ := exec_bitMXd x b d z s
    refine does_of_charge he hc rfl ?_ (((CoreOnly.refl _).setF _).setMemptr _) ⟨rfl, rfl⟩
    constructor <;> simp [State.bitIndexed]

theorem getLsbD_bitMask : ∀ b : BitVec 3, ∀ k < 8, (bitMask b).getLsbD k = decide (k = b.toNat) := by decide

theorem resBit_bitSetTo (b : BitVec 3) (v : Byte) : BitSetTo b false v (resBit b v) := by
  intro k hk
  rw [resBit, BitVec.getLsbD_and, BitVec.getLsbD_not, getLsbD_bitMask b k hk]
  split
  case isTrue h => simp [h]
  case isFalse h => simp [h, hk]

theorem setBit_bitSetTo (b : BitVec 3) (v : Byte) : BitSetTo b true v (setBit b v) := by
  intro k hk
  rw [setBit, BitVec.getLsbD_or, getLsbD_bitMask b k hk]
  split
  case isTrue h => simp [h]
  case isFalse h => simp [h]

/-- RES and SET of a register. -/
theorem setReg8_does {i : Instr} {s : State} {r : Reg8} {v : Byte} {cost : Nat} {P : State → Prop}
    (he : exec i s = .next ((s.setReg8 r v).charge i)) (hc : i.tstates = cost) (hP : P ((s.setReg8 r v).charge i)) :
    Does i s [regCell r] cost P := by
  refine does_of_charge he hc ?_ ?_ ((CoreOnly.refl _).setReg8 r _) hP
  · cases r <;> rfl
  · cases r <;> constructor <;> simp [State.setReg8, regCell]

/-- RES and SET of (HL). -/
theorem writeByte_doesStore {i : Instr} {s : State} {a : Word} {v : Byte} {cost : Nat}
    (he : exec i s = .next ((s.writeByte a v).charge i)) (hc : i.tstates = cost) :
    DoesStore i s [] cost [(a, v)] fun _ => True := by
  refine doesStore_of_charge he hc ?_ ?_ (.refl _) trivial
  · simp
  · constructor <;> simp

/-- RES and SET of an indexed byte. -/
theorem writeIndexed_doesStore {i : Instr} {s : State} {a : Word} {v : Byte} {cost : Nat}
    (he : exec i s = .next (((s.writeByte a v).setMemptr a).charge i)) (hc : i.tstates = cost) :
    DoesStore i s [.memptr] cost [(a, v)] fun t => t.cpu.memptr = a := by
  refine doesStore_of_charge he hc ?_ ?_ ((CoreOnly.refl _).setMemptr _) rfl
  · simp
  · constructor <;> simp

/-- RES and SET of an indexed byte that a register also receives. -/
theorem writeIndexedReg_doesStore {i : Instr} {s : State} {a : Word} {v : Byte} {r : Reg8} {cost : Nat}
    (he : exec i s = .next ((((s.writeByte a v).setMemptr a).setReg8 r v).charge i)) (hc : i.tstates = cost) :
    DoesStore i s [.memptr, regCell r] cost [(a, v)] fun t => t.cpu.memptr = a ∧ t.reg8 r = v := by
  refine doesStore_of_charge he hc ?_ ?_ (((CoreOnly.refl _).setMemptr _).setReg8 r _) ⟨?_, by simp⟩
  · cases r <;> simp [State.setReg8]
  · cases r <;> constructor <;> simp [State.setReg8, regCell]
  · cases r <;> rfl

/-- Settles O50: each form writes the byte that `resBit` or `setBit` makes of the one it read. -/
theorem bitChange : Obligations.BitChange := by
  unfold Obligations.BitChange
  intro s b r x d
  simp only [← State.ea_eq]
  have hres (v : Byte) := resBit_bitSetTo b v
  have hset (v : Byte) := setBit_bitSetTo b v
  refine ⟨setReg8_does rfl rfl ?_, setReg8_does rfl rfl ?_, ⟨_, hres _, writeByte_doesStore rfl rfl⟩,
    ⟨_, hset _, writeByte_doesStore rfl rfl⟩, ⟨_, hres _, writeIndexed_doesStore ?_ ?_⟩,
    ⟨_, hset _, writeIndexed_doesStore ?_ ?_⟩, ⟨_, hres _, writeIndexedReg_doesStore ?_ ?_⟩,
    ⟨_, hset _, writeIndexedReg_doesStore ?_ ?_⟩⟩
  · simpa using hres _
  · simpa using hset _
  all_goals cases x <;> rfl

end Sys2Proof.Machine
end

section
/-! PROOFS. The 8-bit loads (spec/40_load8.md R200 to R219): loads of a register, loads with a half of an index register,
stores of a byte, and the loads of I and R. From these: O25, O26, O27 and O28. -/

namespace Sys2Proof.Machine

open Claims

/-- MEMPTR set to what it holds: a load or store without a MEMPTR rule is one whose rule gives MEMPTR itself. -/
theorem State.setMemptr_of_eq {s : State} {m : Word} (h : s.cpu.memptr = m) : s.setMemptr m = s := by
  rw [← h]
  rfl

/-! ## Loads of a register (R200 to R202, R205, R208 to R210) -/

@[simp] theorem State.setReg8_memptr (s : State) (r : Reg8) (v : Byte) : (s.setReg8 r v).cpu.memptr = s.cpu.memptr := by
  cases r <;> rfl

/-- A load of a register with the value MEMPTR gets. -/
theorem load_does {i : Instr} {s : State} {r : Reg8} {v : Byte} {m : Word} {cost : Nat}
    (he : exec i s = .next (((s.setReg8 r v).setMemptr m).charge i)) (hc : i.tstates = cost) :
    Does i s [regCell r, .memptr] cost fun t => t.reg8 r = v ∧ t.cpu.memptr = m := by
  refine does_of_charge he hc ?_ ?_ (((CoreOnly.refl _).setReg8 r v).setMemptr m) ⟨by simp, rfl⟩
  · cases r <;> rfl
  · cases r <;> constructor <;> simp [State.setReg8, regCell]

/-- A load of a register without a MEMPTR rule. -/
theorem loadPlain_does {i : Instr} {s : State} {r : Reg8} {v : Byte} {cost : Nat}
    (he : exec i s = .next ((s.setReg8 r v).charge i)) (hc : i.tstates = cost) :
    Does i s [regCell r, .memptr] cost fun t => t.reg8 r = v ∧ t.cpu.memptr = s.cpu.memptr := by
  rw [← State.setMemptr_of_eq (s.setReg8_memptr r v)] at he
  exact load_does he hc

/-- Settles O25: every form is a load of a register, with or without a MEMPTR rule. -/
theorem loadRegister : Obligations.LoadRegister := by
  unfold Obligations.LoadRegister
  intro s r q n nn loads
  have hix : plusSigned s.cpu.ix n = s.ea .ix n := (s.ea_eq .ix n).symm
  have hiy : plusSigned s.cpu.iy n = s.ea .iy n := (s.ea_eq .iy n).symm
  rw [hix, hiy]
  exact ⟨loadPlain_does rfl rfl, loadPlain_does rfl rfl, loadPlain_does rfl rfl, load_does rfl rfl, load_does rfl rfl,
    load_does (r := .a) rfl rfl, load_does (r := .a) rfl rfl, load_does (r := .a) rfl rfl⟩

/-! ## Stores of a byte (R203, R204, R206, R207, R211 to R213) -/

/-- A store of a byte with the value MEMPTR gets. -/
theorem store_doesStore {i : Instr} {s : State} {a m : Word} {v : Byte} {cost : Nat}
    (he : exec i s = .next (((s.writeByte a v).setMemptr m).charge i)) (hc : i.tstates = cost) :
    DoesStore i s [.memptr] cost [(a, v)] fun t => t.cpu.memptr = m := by
  refine doesStore_of_charge he hc ?_ ?_ ((CoreOnly.refl _).setMemptr m) rfl
  · simp
  · constructor <;> simp

/-- A store of a byte without a MEMPTR rule. -/
theorem storePlain_doesStore {i : Instr} {s : State} {a : Word} {v : Byte} {cost : Nat}
    (he : exec i s = .next ((s.writeByte a v).charge i)) (hc : i.tstates = cost) :
    DoesStore i s [.memptr] cost [(a, v)] fun t => t.cpu.memptr = s.cpu.memptr := by
  rw [← State.setMemptr_of_eq (congrArg Cpu.memptr (s.writeByte_cpu a v))] at he
  exact store_doesStore he hc

/-- What a store of A puts in MEMPTR, in the words of R211 to R213. -/
theorem Word.ofBytes_lo_succ (h : Byte) (a : Word) :
    Word.ofBytes h (a.lo + 1) = BitVec.ofNat 16 (h.toNat * 256 + (a.toNat + 1) % 256) := by
  rw [Word.ofBytes_eq]
  simp [Word.lo]

/-- Settles O27: every form is a store of a byte, with or without a MEMPTR rule. -/
theorem storeByte : Obligations.StoreByte := by
  unfold Obligations.StoreByte
  intro s r d n nn stores aAbove
  have hix : plusSigned s.cpu.ix d = s.ea .ix d := (s.ea_eq .ix d).symm
  have hiy : plusSigned s.cpu.iy d = s.ea .iy d := (s.ea_eq .iy d).symm
  have ha (a : Word) : aAbove a = Word.ofBytes s.cpu.a (a.lo + 1) := (Word.ofBytes_lo_succ s.cpu.a a).symm
  rw [hix, hiy, ha, ha, ha]
  exact ⟨storePlain_doesStore rfl rfl, storePlain_doesStore rfl rfl, store_doesStore rfl rfl, store_doesStore rfl rfl,
    store_doesStore rfl rfl, store_doesStore rfl rfl, store_doesStore rfl rfl, store_doesStore rfl rfl,
    store_doesStore rfl rfl⟩

/-! ## Loads with a half of an index register (R218, R219) -/

/-- The charge adds the clock to the cells that may differ. -/
theorem keeps_charge {ws : List Cell} {s u : State} (h : Keeps ws s.cpu u.cpu) (i : Instr) :
    Keeps (.clk :: ws) s.cpu (u.charge i).cpu := by
  cases h
  constructor <;> simp_all

section
variable (s : State) (x : IdxReg) (v : Byte)

@[simp] theorem State.half_setHalf (h : Half) : (s.setHalf x h v).half x h = v := by
  cases h <;> simp [State.setHalf, State.half, Word.ofBytes_hi, Word.ofBytes_lo]

theorem State.half_setHalf_ne {g h : Half} (hne : g ≠ h) : (s.setHalf x h v).half x g = s.half x g := by
  cases h <;> cases g <;> simp_all [State.setHalf, State.half, Word.ofBytes_hi, Word.ofBytes_lo]

@[simp] theorem State.half_charge (i : Instr) (h : Half) : (s.charge i).half x h = s.half x h := by
  simp [State.half]

/-- A half is written by writing its index register. -/
theorem State.setHalf_keeps (h : Half) : Keeps [idxCell x] s.cpu (s.setHalf x h v).cpu := by
  cases x <;> cases h <;> constructor <;> simp [State.setHalf, idxCell]

theorem State.setHalf_coreOnly (h : Half) : CoreOnly s (s.setHalf x h v) := by
  cases h <;> exact (CoreOnly.refl s).setXy x _

@[simp] theorem State.hreg_setHreg (k : HReg) : (s.setHreg x k v).hreg x k = v := by
  cases k with
  | xh => exact s.half_setHalf x v .hi
  | xl => exact s.half_setHalf x v .lo
  | _ => rfl

theorem State.hreg_setHreg_ne {k q : HReg} (hne : q ≠ k) : (s.setHreg x k v).hreg x q = s.hreg x q := by
  cases k with
  | xh =>
    cases q with
    | xh => exact absurd rfl hne
    | xl => exact s.half_setHalf_ne x v (g := .lo) (h := .hi) (by decide)
    | _ => cases x <;> rfl
  | xl =>
    cases q with
    | xh => exact s.half_setHalf_ne x v (g := .hi) (h := .lo) (by decide)
    | xl => exact absurd rfl hne
    | _ => cases x <;> rfl
  | _ => cases q <;> simp_all [State.setHreg, State.hreg, State.half, State.xy]

@[simp] theorem State.hreg_charge (i : Instr) (k : HReg) : (s.charge i).hreg x k = s.hreg x k := by
  cases k <;> simp [State.hreg]

theorem State.setHreg_keeps (k : HReg) : Keeps [hregCell x k] s.cpu (s.setHreg x k v).cpu := by
  cases k with
  | xh => exact s.setHalf_keeps x v .hi
  | xl => exact s.setHalf_keeps x v .lo
  | _ => constructor <;> simp [State.setHreg, hregCell]

theorem State.setHreg_coreOnly (k : HReg) : CoreOnly s (s.setHreg x k v) := by
  cases k with
  | xh => exact s.setHalf_coreOnly x v .hi
  | xl => exact s.setHalf_coreOnly x v .lo
  | _ => rfl

end

/-- A load between registers and halves (R218). -/
theorem moveHalf_does {i : Instr} {s : State} {x : IdxReg} {k r : HReg} {cost : Nat}
    (he : exec i s = .next ((s.moveHalf x k r).charge i)) (hc : i.tstates = cost) :
    Does i s [hregCell x k] cost fun t => t.hreg x k = s.hreg x r ∧ ∀ q, q ≠ k → t.hreg x q = s.hreg x q := by
  refine does_of_charge he hc (congrArg Prod.snd (s.moveHalf_kept x k r)) (keeps_charge (s.setHreg_keeps x _ k) i)
    (s.setHreg_coreOnly x _ k) ⟨?_, fun q hq => ?_⟩
  · simp [State.moveHalf]
  · simp [State.moveHalf, s.hreg_setHreg_ne x _ hq]

/-- A load of a byte into a half (R219). -/
theorem setHalf_does {i : Instr} {s : State} {x : IdxReg} {h : Half} {n : Byte} {cost : Nat}
    (he : exec i s = .next ((s.setHalf x h n).charge i)) (hc : i.tstates = cost) :
    Does i s [idxCell x] cost fun t => t.half x h = n ∧ ∀ g, g ≠ h → t.half x g = s.half x g := by
  refine does_of_charge he hc (congrArg Prod.snd (s.setHalf_kept x h n)) (keeps_charge (s.setHalf_keeps x n h) i)
    (s.setHalf_coreOnly x n h) ⟨?_, fun g hg => ?_⟩
  · simp
  · simp [s.half_setHalf_ne x n hg]

/-- Settles O26: a write of one register field or half leaves the others. -/
theorem loadIndexHalf : Obligations.LoadIndexHalf := by
  unfold Obligations.LoadIndexHalf
  intro s k r h n moves sets
  exact ⟨moveHalf_does rfl rfl, moveHalf_does rfl rfl, setHalf_does rfl rfl, setHalf_does rfl rfl⟩

/-! ## Loads of I and R (R214 to R217) -/

theorem refLdAI_eq (v f : Byte) (iff2 y x : Bool) : refLdAI v f iff2 y x = ldAIF v f iff2 y x := by
  simp only [refLdAI, ldAIF, packF_eq, byte_beq_zero, bit_toNat, flagC]

/-- R put together from bit 7 and the counter is the byte written (R41, R217). -/
@[simp] theorem State.rReg_setR (s : State) (v : Byte) : (s.setR v).rReg = v := by
  have h : ∀ v : Byte, BitVec.ofBool (v.getLsbD 7) ++ v.extractLsb' 0 7 = v := by decide
  exact h v

/-- LD A,I and LD A,R. -/
theorem loadAFrom_does {i : Instr} {s : State} {v : Byte} {cost : Nat} {P : State → Prop}
    (he : exec i s = .next ((s.loadAFrom v).charge i)) (hc : i.tstates = cost) (hP : P ((s.loadAFrom v).charge i)) :
    Does i s [.a, .f] cost P := by
  refine does_of_charge he hc rfl ?_ (((CoreOnly.refl s).setA v).setF _) hP
  constructor <;> simp [State.loadAFrom]

/-- Settles O28: A and F, or the register, alone change. -/
theorem loadInterruptAndRefresh : Obligations.LoadInterruptAndRefresh := by
  unfold Obligations.LoadInterruptAndRefresh
  intro s
  simp only [refLdAI_eq, bit_toNat]
  refine ⟨loadAFrom_does rfl rfl ⟨rfl, rfl⟩, loadAFrom_does rfl rfl ⟨rfl, rfl⟩, ?_, ?_⟩
  · refine does_of_charge rfl rfl rfl ?_ rfl rfl
    constructor <;> simp
  · refine does_of_charge rfl rfl rfl ?_ rfl (s.rReg_setR s.cpu.a)
    constructor <;> simp

end Sys2Proof.Machine
end

section
/-! PROOFS. The 16-bit loads (spec/41_load16.md R230 to R239): the frame of a store of a word, low byte first, and the loads of
a pair, an index register or SP. From these: O29. -/

namespace Sys2Proof.Machine

open Claims

/-! ## The frame of a store of a word, low byte first -/

/-- A byte stored after others, at a location that none of them has, adds its cell to the frame. The raster is brought up to the
same clock by each of them. -/
theorem stores_writeByte {s u : State} {cells : List (Word × Byte)} {a : Word} (h : Stores [] s u cells)
    (hne : ∀ b w, (b, w) ∈ cells → s.writeLoc b ≠ s.writeLoc a) (v : Byte) :
    Stores [] s (u.writeByte a v) (cells ++ [(a, v)]) := by
  obtain ⟨hcore, hstored, helse, hreads, hraster, hothers⟩ := h
  have hrom : u.rom = s.rom := by rw [hothers]
  have hram : u.ram3 = s.ram3 := by rw [hothers]
  have hloc : u.writeLoc a = s.writeLoc a := State.writeLoc_congr hram a
  have hmem (k : Nat) : Memory.read (u.writeByte a v).mem k = if k = s.writeLoc a then v else Memory.read u.mem k := by
    rw [State.writeByte_mem, Memory.read_write, hloc]
  refine ⟨?_, fun b w hb => ?_, fun k hk => ?_, fun p hp => ?_, ?_, ?_⟩
  · rwa [State.writeByte_cpu]
  · rw [hmem]
    obtain hb | hb := List.mem_append.mp hb
    · rw [if_neg (hne b w hb), hstored b w hb]
    · obtain ⟨rfl, rfl⟩ := Prod.mk_inj.mp (List.mem_singleton.mp hb)
      rw [if_pos rfl]
  · rw [hmem, if_neg (hk a v (by simp)), helse k fun b w hb => hk b w (List.mem_append_left _ hb)]
  · rw [State.readByte_writeByte, State.readLoc_congr hrom hram, hloc, if_neg (hp a v (by simp)),
      hreads p fun b w hb => hp b w (List.mem_append_left _ hb)]
  · have hclk : u.accessClk = s.accessClk := State.accessClk_congr (hcore.clk (by simp)) (by rw [hothers])
    have hdisplay : u.isDisplayPage (u.writePage (slotOf a)) = s.isDisplayPage (s.writePage (slotOf a)) := by
      rw [State.writePage_congr hram, hothers]
      rfl
    have hparams : u.params = s.params := by rw [hothers]
    rw [State.writeByte_ula, hdisplay, hclk, hparams, hraster, List.any_append]
    cases cells.any _ <;> cases hd : s.isDisplayPage (s.writePage (slotOf a)) <;> simp [hd, Ula.syncTo_syncTo]
  · rw [State.writeByte_eq, hothers]

/-- The effect of `MemWrite(a, 2, v)` (R87, R95). -/
theorem State.writeWord_stores (s : State) (a v : Word) : Stores [] s (s.writeWord a v) (wordCells a v) := by
  refine stores_writeByte (s.writeByte_stores a v.lo) (fun b w hb => ?_) v.hi
  obtain ⟨rfl, -⟩ := Prod.mk_inj.mp (List.mem_singleton.mp hb)
  exact (s.writeLoc_succ_ne b).symm

/-- A store of a word at `nn` (R235 to R237). -/
theorem storeWord_doesStore {i : Instr} {s : State} {nn v : Word} {cost : Nat}
    (he : exec i s = .next (((s.writeWord nn v).setMemptr (nn + 1)).charge i)) (hc : i.tstates = cost) :
    DoesStore i s [.memptr] cost (wordCells nn v) fun t => t.cpu.memptr = nn + 1 := by
  refine ⟨_, he, ⟨by simp [State.tstates], hc⟩, stores_of_core (s.writeWord_stores nn v) ?_ ?_, rfl⟩
  · constructor <;> simp
  · exact ((CoreOnly.refl _).setMemptr _).tick _

/-! ## Loads of a word -/

/-- `MemRead(a, 2)` in the words of R95. -/
theorem State.readWord_eq (s : State) (a : Word) :
    s.readWord a = BitVec.ofNat 16 ((s.readByte a).toNat + 256 * (s.readByte (a + 1)).toNat) := by
  rw [State.readWord, Word.ofBytes_eq, Nat.mul_comm, Nat.add_comm]

theorem CoreOnly.setPair {u t : State} (h : CoreOnly u t) (p : RegPair) (v : Word) : CoreOnly u (t.setPair p v) :=
  h.trans (by cases p <;> rfl)

section
variable (s : State) (p : RegPair) (v : Word)

@[simp] theorem State.pair_setPair : (s.setPair p v).pair p = v := by
  cases p with
  | sp => rfl
  | _ => exact Word.ofBytes_hi_lo v

@[simp] theorem State.pair_setMemptr : (s.setMemptr v).pair p = s.pair p := by cases p <;> rfl
@[simp] theorem State.pair_charge (i : Instr) : (s.charge i).pair p = s.pair p := by cases p <;> rfl

theorem State.setPair_clk : (s.setPair p v).cpu.clk = s.cpu.clk := by cases p <;> rfl

theorem State.setPair_keeps : Keeps (pairCells p) s.cpu (s.setPair p v).cpu := by
  cases p <;> constructor <;> simp [State.setPair, pairCells]

theorem State.setXy_keeps (x : IdxReg) : Keeps [idxCell x] s.cpu (s.setXy x v).cpu := by
  cases x <;> constructor <;> simp [idxCell]

theorem State.setXy_clk (x : IdxReg) : (s.setXy x v).cpu.clk = s.cpu.clk := by cases x <;> rfl

end

/-- A change of MEMPTR adds it to the cells that may differ. -/
theorem keeps_setMemptr {ws ws' : List Cell} {s u : State} (h : Keeps ws s.cpu u.cpu) (hws : .memptr :: ws ⊆ ws') (m : Word) :
    Keeps ws' s.cpu (u.setMemptr m).cpu := by
  obtain ⟨hm, hws⟩ := List.cons_subset.mp hws
  have hnot {x : Cell} (hx : x ∉ ws') : x ∉ ws := mt (@hws x) hx
  cases h
  constructor <;> simp_all

section
variable {i : Instr} {s : State} {p : RegPair} {x : IdxReg} {v m : Word} {ws : List Cell} {cost : Nat} (hc : i.tstates = cost)
include hc

/-- A load of a pair or of SP without a memory operand (R230, R238, R239). -/
theorem loadPair_does (he : exec i s = .next ((s.setPair p v).charge i)) :
    Does i s (pairCells p) cost fun t => t.pair p = v :=
  does_of_charge he hc (s.setPair_clk p v) (keeps_charge (s.setPair_keeps p v) i) ((CoreOnly.refl s).setPair p v) (by simp)

/-- A load of a pair from memory (R232, R233). -/
theorem loadPairMem_does (he : exec i s = .next (((s.setPair p v).setMemptr m).charge i))
    (hws : .memptr :: pairCells p ⊆ ws) :
    Does i s ws cost fun t => t.pair p = v ∧ t.cpu.memptr = m :=
  does_of_charge he hc (s.setPair_clk p v) (keeps_charge (keeps_setMemptr (s.setPair_keeps p v) hws m) i)
    (((CoreOnly.refl s).setPair p v).setMemptr m) ⟨by simp, rfl⟩

/-- A load of an index register without a memory operand (R231). -/
theorem loadXy_does (he : exec i s = .next ((s.setXy x v).charge i)) : Does i s [idxCell x] cost fun t => t.xy x = v :=
  does_of_charge he hc (s.setXy_clk v x) (keeps_charge (s.setXy_keeps v x) i) ((CoreOnly.refl s).setXy x v) (by simp)

/-- A load of an index register from memory (R234). -/
theorem loadXyMem_does (he : exec i s = .next (((s.setXy x v).setMemptr m).charge i)) :
    Does i s [idxCell x, .memptr] cost fun t => t.xy x = v ∧ t.cpu.memptr = m :=
  does_of_charge he hc (s.setXy_clk v x) (keeps_charge (keeps_setMemptr (s.setXy_keeps v x) (by simp) m) i)
    (((CoreOnly.refl s).setXy x v).setMemptr m) ⟨by simp, rfl⟩

end

/-- Settles O29: every form is a load of a pair, SP being one, a load of an index register, or a store of a word. -/
theorem wordLoads : Obligations.WordLoads := by
  unfold Obligations.WordLoads
  intro s p nn at16 stores
  have hword : s.readWord nn = at16 nn := s.readWord_eq nn
  rw [← hword]
  exact ⟨loadPair_does rfl rfl, loadPairMem_does (p := .hl) rfl rfl (by decide),
    loadPairMem_does rfl rfl (List.Subset.refl _), loadXy_does (x := .ix) rfl rfl, loadXy_does (x := .iy) rfl rfl,
    loadXyMem_does (x := .ix) rfl rfl, loadXyMem_does (x := .iy) rfl rfl, loadPair_does (p := .sp) rfl rfl,
    loadPair_does (p := .sp) rfl rfl, loadPair_does (p := .sp) rfl rfl, storeWord_doesStore rfl rfl,
    storeWord_doesStore rfl rfl, storeWord_doesStore rfl rfl, storeWord_doesStore rfl rfl⟩

end Sys2Proof.Machine
end

section
/-! PROOFS. Exchanges and block instructions (spec/42_exchange_block.md R260 to R274; spec/49_io.md R483 to R494): what one
iteration of each block instruction leaves in the core, the end that a repeating form shares with its single form, and the flags
by the rules' integer formulas. From these: O31, O33, O34 and O54. -/

namespace Sys2Proof.Machine

open Claims

/-! ## Exchanges of registers (R260 to R262) -/

/-- Settles O31: each exchange is one update of the core. -/
theorem exchangeRegisters : Obligations.ExchangeRegisters := by
  unfold Obligations.ExchangeRegisters
  intro s
  refine ⟨?_, ?_, ?_⟩
  · refine does_of_charge rfl rfl rfl ?_ rfl ⟨Word.ofBytes_hi_lo s.hl, Word.ofBytes_hi_lo s.de⟩
    constructor <;> simp
  · refine does_of_charge rfl rfl rfl ?_ rfl (by simp)
    constructor <;> simp
  · refine does_of_charge rfl rfl rfl ?_ rfl (by simp)
    constructor <;> simp

/-! ## The flags (R265, R267, R494) -/

theorem bit_mod_256 (n : Nat) {k : Nat} (hk : k < 8) : bit (n % 256) k = bit n k := by
  simpa [Nat.testBit_eq_decide_div_mod_eq, bit, hk] using Nat.testBit_mod_two_pow n 8 k

theorem ldBlockF_eq (a v f : Byte) (more : Bool) : ldBlockF a v f more = refLdBlock a v f more := by
  have hn {k : Nat} (hk : k < 8) : (v + a).getLsbD k = bit (a.toNat + v.toNat) k := by
    rw [← bit_toNat, BitVec.toNat_add, bit_mod_256 _ hk, Nat.add_comm]
  simp only [ldBlockF, refLdBlock, packF_eq, hn, bit_toNat, flagS, flagZ, flagC, Nat.reduceLT]

theorem carryByte_toNat (c : Bool) : (carryByte c).toNat = c.toNat := by
  cases c <;> rfl

theorem cpBlockF_eq (a v f : Byte) (more : Bool) : cpBlockF a v f more = refCpBlock a v f more := by
  have hsub (x y : Byte) : (x - y).toNat = (x.toNat + 256 - y.toNat) % 256 := by bv_omega
  simp only [cpBlockF, refCpBlock, packF_eq, ← bit_toNat, byte_beq_zero, hsub, carryByte_toNat, flagC]

theorem ioBlockF_eq (v b : Byte) (k : Nat) : ioBlockF v b k = refIoBlock v b k := by
  have hk : ((BitVec.ofNat 8 k &&& 7) ^^^ b).toNat = Nat.xor (k % 8) b.toNat := by
    have h7 : (k % 256).land 7 = k % 256 % 8 := Nat.and_two_pow_sub_one_eq_mod _ 3
    rw [BitVec.toNat_xor, BitVec.toNat_and, BitVec.toNat_ofNat]
    exact congrArg (Nat.xor · b.toNat) (h7.trans (Nat.mod_mod_of_dvd k (by decide)))
  simp only [ioBlockF, refIoBlock, szxyF, packF_eq, parity_eq, hk, byte_beq_zero, bit_toNat]
  rfl

/-- Z of a search says that A is the byte compared (R267). -/
theorem flagZ_cpBlockF (a v f : Byte) (more : Bool) : flagZ (cpBlockF a v f more) = (a == v) := by
  have hz (s z y h x pv n c : Bool) : flagZ (packF s z y h x pv n c) = z := by
    revert s z y h x pv n c
    decide
  rw [cpBlockF, hz, Bool.eq_iff_iff, beq_iff_eq, beq_iff_eq]
  exact sub_eq_zero

/-! ## The count and the step -/

/-- A counter that counts to 0 was 1. -/
theorem pred_bne_zero {w : Nat} (v : BitVec w) : (v - 1#w != 0#w) = (v != 1#w) := by
  rw [Bool.eq_iff_iff, bne_iff_ne, bne_iff_ne]
  exact sub_ne_zero

/-- What a pointer moves by: 1 up, or 1 down. -/
def blockStep (up : Bool) : Word := bif up then 1 else -1

theorem add_blockStep (w : Word) (up : Bool) : (if up then w + 1#16 else w - 1#16) = w + blockStep up := by
  cases up with
  | true => rfl
  | false => exact sub_eq_add_neg w 1

/-! ## The end of a block instruction (R270) -/

/-- The end of an iteration: with `again` PC goes back to the instruction and the row's other cost is charged. -/
def State.rerun (s : State) (i : Instr) (again : Bool) : State :=
  if again then s.repeatPc.chargeTaken i else s.charge i

theorem State.repeatBlock_eq (s : State) (i : Instr) (again : Bool) :
    s.repeatBlock i again = (s.setMemptr (if again then s.cpu.pc - 1 else s.cpu.memptr)).rerun i again := by
  cases again <;> rfl

theorem State.repeatIo_eq (s : State) (i : Instr) : s.repeatIo i = s.rerun i (s.cpu.b != 0) := rfl

@[simp] theorem State.rerun_cpu (s : State) (i : Instr) (again : Bool) :
    (s.rerun i again).cpu =
      { s.cpu with
        pc := if again then s.cpu.pc - 2 else s.cpu.pc
        clk := s.cpu.clk + if again then s.tstatesTaken i else s.tstates i } := by
  cases again <;> rfl

theorem CoreOnly.rerun {u t : State} (h : CoreOnly u t) (i : Instr) (again : Bool) : CoreOnly u (t.rerun i again) :=
  h.trans (by cases again <;> rfl)

/-- What an iteration costs, where its effect keeps the parameters and the clock. -/
theorem costs_rerun {i : Instr} {again : Bool} {cost : Nat} {s u : State} (hu : u.kept = s.kept)
    (hc : (if again then i.tstatesTaken else i.tstates) = cost) : Costs i again cost s (u.rerun i again) := by
  obtain ⟨hf, hclk⟩ := State.kept_eq_iff.mp hu
  have hp : u.params = s.params := (State.fixed_eq_iff.mp hf).1
  cases again <;> exact ⟨by simp [State.tstates, State.tstatesTaken, hp, hclk], hc⟩

@[simp] theorem State.bc_setBc (s : State) (w : Word) : (s.setBc w).bc = w := Word.ofBytes_hi_lo w

/-! ## Transfers (R265, R266, R271, R272) -/

theorem State.blockMove_cpu (s : State) (up : Bool) :
    (s.blockMove up).cpu =
      { s.cpu with
        b := (s.bc - 1).hi, c := (s.bc - 1).lo
        d := (s.de + blockStep up).hi, e := (s.de + blockStep up).lo
        h := (s.hl + blockStep up).hi, l := (s.hl + blockStep up).lo
        f := refLdBlock s.cpu.a (s.readByte s.hl) s.cpu.f (s.bc != 1) } := by
  simp [State.blockMove, State.stepHl, State.stepDe, State.hl, State.de, add_blockStep, pred_bne_zero, ldBlockF_eq]

/-- A transfer: the store at DE, the core, and the end. -/
theorem blockMove_doesStoreAs {i : Instr} {s : State} {up again : Bool}
    (he : exec i s = .next ((s.blockMove up).repeatBlock i again))
    (hc : (if again then i.tstatesTaken else i.tstates) = if again then 21 else 16) :
    DoesStoreAs again i s ([.b, .c, .d, .e, .h, .l, .f] ++ if again then [.pc, .memptr] else [])
      (if again then 21 else 16) [(s.de, s.readByte s.hl)] fun t =>
        t.bc = s.bc - 1 ∧ t.de = s.de + blockStep up ∧ t.hl = s.hl + blockStep up ∧
          t.cpu.f = refLdBlock s.cpu.a (s.readByte s.hl) s.cpu.f (s.bc != 1) ∧
          (again → t.cpu.pc = s.cpu.pc - 2 ∧ t.cpu.memptr = s.cpu.pc - 1) := by
  rw [State.repeatBlock_eq] at he
  have hcore : CoreOnly (s.writeByte s.de (s.readByte s.hl)) (s.blockMove up) := rfl
  refine ⟨_, he, costs_rerun (by simp) hc, stores_of_core (s.writeByte_stores s.de (s.readByte s.hl)) ?_
    ((hcore.setMemptr _).rerun i again), ?_⟩
  · cases again <;> constructor <;> simp [s.blockMove_cpu]
  · simp +contextual [State.bc, State.de, State.hl, s.blockMove_cpu]

/-- Settles O33: the single forms are the repeating ones that never run again, and those run again unless BC was 1. -/
theorem blockTransfer : Obligations.BlockTransfer := by
  unfold Obligations.BlockTransfer
  intro s v moves
  have hagain (i : Instr) (up : Bool) :
      (s.blockMove up).repeatBlock i ((s.blockMove up).bc != 0) = (s.blockMove up).repeatBlock i (true && s.bc != 1) := by
    simp [State.bc, s.blockMove_cpu, pred_bne_zero]
  exact ⟨blockMove_doesStoreAs (up := true) rfl rfl, blockMove_doesStoreAs (up := false) rfl rfl,
    blockMove_doesStoreAs (up := true) (congrArg Host.Outcome.next (hagain _ _)) rfl,
    blockMove_doesStoreAs (up := false) (congrArg Host.Outcome.next (hagain _ _)) rfl⟩

/-! ## Searches (R267, R268, R273, R274) -/

theorem State.blockCompare_cpu (s : State) (up : Bool) :
    (s.blockCompare up).cpu =
      { s.cpu with
        b := (s.bc - 1).hi, c := (s.bc - 1).lo
        h := (s.hl + blockStep up).hi, l := (s.hl + blockStep up).lo
        f := cpBlockF s.cpu.a (s.readByte s.hl) s.cpu.f (s.bc != 1)
        memptr := s.cpu.memptr + blockStep up } := by
  simp [State.blockCompare, State.stepHl, add_blockStep, pred_bne_zero]

/-- A search: the core and the end. -/
theorem blockCompare_doesAs {i : Instr} {s : State} {up again : Bool}
    (he : exec i s = .next ((s.blockCompare up).repeatBlock i again))
    (hc : (if again then i.tstatesTaken else i.tstates) = if again then 21 else 16) :
    DoesAs again i s ([.b, .c, .h, .l, .f, .memptr] ++ repeatCells again) (if again then 21 else 16) fun t =>
      t.bc = s.bc - 1 ∧ t.hl = s.hl + blockStep up ∧
        t.cpu.f = refCpBlock s.cpu.a (s.readByte s.hl) s.cpu.f (s.bc != 1) ∧ (again → t.cpu.pc = s.cpu.pc - 2) ∧
        t.cpu.memptr = if again then s.cpu.pc - 1 else s.cpu.memptr + blockStep up := by
  rw [State.repeatBlock_eq] at he
  have hcore : CoreOnly s (s.blockCompare up) := rfl
  refine ⟨_, he, costs_rerun (by simp) hc, ⟨?_, (hcore.setMemptr _).rerun i again⟩, ?_⟩
  · cases again <;> constructor <;> simp [s.blockCompare_cpu, repeatCells]
  · simp +contextual [State.bc, State.hl, s.blockCompare_cpu, cpBlockF_eq]

/-- Settles O34: a repeating form runs again while BC is not 0 and Z says that A is not the byte compared. -/
theorem blockSearch : Obligations.BlockSearch := by
  unfold Obligations.BlockSearch
  intro s v searches
  have hagain (i : Instr) (up : Bool) :
      (s.blockCompare up).repeatBlock i ((s.blockCompare up).bc != 0 && !flagZ (s.blockCompare up).cpu.f) =
        (s.blockCompare up).repeatBlock i (true && s.bc != 1 && s.cpu.a != v) := by
    have hbc : ((s.blockCompare up).bc != 0) = (s.bc != 1) := by simp [State.bc, s.blockCompare_cpu, pred_bne_zero]
    have hz : (!flagZ (s.blockCompare up).cpu.f) = (s.cpu.a != v) := by
      rw [s.blockCompare_cpu, flagZ_cpBlockF, bne]
    rw [hbc, hz, Bool.true_and]
  exact ⟨blockCompare_doesAs (up := true) rfl rfl, blockCompare_doesAs (up := false) rfl rfl,
    blockCompare_doesAs (up := true) (congrArg Host.Outcome.next (hagain _ _)) rfl,
    blockCompare_doesAs (up := false) (congrArg Host.Outcome.next (hagain _ _)) rfl⟩

/-! ## Block input (R483 to R486) -/

/-- A store does not depend on MEMPTR. -/
theorem State.writeByte_setMemptr (s : State) (m a : Word) (v : Byte) :
    (s.setMemptr m).writeByte a v = (s.writeByte a v).setMemptr m := by
  rw [State.writeByte_eq, State.writeByte_eq]
  rfl

theorem State.blockIn_coreOnly (s : State) (up : Bool) :
    CoreOnly ((s.portRead s.bc).writeByte s.hl (s.portValue s.bc)) (s.blockIn up) := by
  simp only [State.blockIn, State.writeByte_setMemptr]
  exact ((((CoreOnly.refl _).setMemptr _).setReg8 .b _).setHl _).setF _

theorem State.blockIn_cpu (s : State) (up : Bool) :
    (s.blockIn up).cpu =
      { s.cpu with
        b := s.cpu.b - 1
        h := (s.hl + blockStep up).hi, l := (s.hl + blockStep up).lo
        f := refIoBlock (s.portValue s.bc) (s.cpu.b - 1)
          ((s.portValue s.bc).toNat + (if up then s.cpu.c.toNat + 1 else s.cpu.c.toNat + 255) % 256)
        memptr := s.bc + blockStep up } := by
  have hc : (if up then s.cpu.c + 1 else s.cpu.c - 1).toNat =
      (if up then s.cpu.c.toNat + 1 else s.cpu.c.toNat + 255) % 256 := by
    cases up with
    | true => exact BitVec.toNat_add ..
    | false => simp [BitVec.toNat_sub, Nat.add_comm]
  simp only [State.blockIn, hc, ioBlockF_eq]
  simp [State.stepHl, State.hl, add_blockStep]

/-- A block input: the read, the store at HL, the core, and the end. -/
theorem blockIn_does {i : Instr} {s : State} {up again : Bool} (he : exec i s = .next ((s.blockIn up).rerun i again))
    (hc : (if again then i.tstatesTaken else i.tstates) = if again then 21 else 16) :
    ∃ t, exec i s = .next t ∧ Costs i again (if again then 21 else 16) s t ∧
      Stores ([.b, .h, .l, .f, .memptr, .clk] ++ repeatCells again) (s.portRead s.bc) t [(s.hl, s.portValue s.bc)] ∧
      t.cpu.b = s.cpu.b - 1 ∧ t.hl = (if up then s.hl + 1 else s.hl - 1) ∧
      t.cpu.f = refIoBlock (s.portValue s.bc) (s.cpu.b - 1)
        ((s.portValue s.bc).toNat + (if up then s.cpu.c.toNat + 1 else s.cpu.c.toNat + 255) % 256) ∧
      t.cpu.memptr = (if up then s.bc + 1 else s.bc - 1) ∧ (again → t.cpu.pc = s.cpu.pc - 2) := by
  refine ⟨_, he, costs_rerun (by simp) hc,
    stores_of_core ((s.portRead s.bc).writeByte_stores s.hl _) ?_ ((s.blockIn_coreOnly up).rerun i again), ?_⟩
  · cases again <;> constructor <;> simp [s.blockIn_cpu, repeatCells]
  · simp +contextual [State.hl, s.blockIn_cpu, add_blockStep]

/-! ## Block output (R490 to R493) -/

/-- What a device makes of a write does not depend on B. -/
theorem State.ioWrite_setB (s : State) (p : Word) (b v : Byte) : (s.setB b).ioWrite p v = (s.ioWrite p v).setB b := by
  have hfdc (u : State) : (u.setB b).writeFdcPort p v = (u.writeFdcPort p v).setB b := by
    simp only [State.writeFdcPort, apply_ite (State.setB · b)]
    rfl
  have hay (u : State) : (u.setB b).writeAyPort p v = (u.writeAyPort p v).setB b := by
    simp only [State.writeAyPort, apply_ite (State.setB · b)]
    rfl
  have hula (u : State) : (u.setB b).writeUlaPort p v = (u.writeUlaPort p v).setB b := by
    simp only [State.writeUlaPort, apply_ite (State.setB · b)]
    rfl
  have hlatch (u : State) : (u.setB b).writeLatchPort p v = (u.writeLatchPort p v).setB b := by
    simp only [State.writeLatchPort, apply_ite (State.setB · b)]
    rfl
  rw [State.ioWrite, hfdc, hay, hula, hlatch, State.ioWrite]

theorem State.blockOut_coreOnly (s : State) (up : Bool) :
    CoreOnly (s.ioWrite (Word.ofBytes (s.cpu.b - 1) s.cpu.c) (s.readByte s.hl)) (s.blockOut up) := by
  simp only [State.blockOut, State.ioWrite_setB]
  exact ((((CoreOnly.refl _).setReg8 .b _).setHl _).setMemptr _).setF _

theorem State.blockOut_cpu (s : State) (up : Bool) :
    (s.blockOut up).cpu =
      { s.cpu with
        b := s.cpu.b - 1
        h := (s.hl + blockStep up).hi, l := (s.hl + blockStep up).lo
        f := refIoBlock (s.readByte s.hl) (s.cpu.b - 1) ((s.readByte s.hl).toNat + (s.hl + blockStep up).lo.toNat)
        memptr := Word.ofBytes (s.cpu.b - 1) s.cpu.c + blockStep up } := by
  simp [State.blockOut, State.stepHl, State.hl, State.bc, add_blockStep, ioBlockF_eq]

/-- A block output: the write, the core, and the end. -/
theorem blockOut_doesOutAs {i : Instr} {s : State} {up again : Bool} (he : exec i s = .next ((s.blockOut up).rerun i again))
    (hc : (if again then i.tstatesTaken else i.tstates) = if again then 21 else 16) :
    DoesOutAs again i s (Word.ofBytes (s.cpu.b - 1) s.cpu.c) (s.readByte s.hl)
      ([.b, .h, .l, .f, .memptr] ++ repeatCells again) (if again then 21 else 16) fun t =>
        t.cpu.b = s.cpu.b - 1 ∧ t.hl = (if up then s.hl + 1 else s.hl - 1) ∧
          t.cpu.f = refIoBlock (s.readByte s.hl) (s.cpu.b - 1) ((s.readByte s.hl).toNat + t.cpu.l.toNat) ∧
          t.cpu.memptr = (if up then Word.ofBytes (s.cpu.b - 1) s.cpu.c + 1 else Word.ofBytes (s.cpu.b - 1) s.cpu.c - 1) ∧
          (again → t.cpu.pc = s.cpu.pc - 2) := by
  refine ⟨_, he, costs_rerun (by simp) hc, ?_, (s.blockOut_coreOnly up).rerun i again, ?_⟩
  · cases again <;> constructor <;> simp [s.blockOut_cpu, repeatCells]
  · simp +contextual [State.hl, s.blockOut_cpu, add_blockStep]

/-- Settles O54: as for transfers, and the count left in B says whether a repeating form runs again. -/
theorem blockInputOutput : Obligations.BlockInputOutput := by
  unfold Obligations.BlockInputOutput
  intro s b c inputs outputs
  have hin (i : Instr) (up : Bool) : (s.blockIn up).repeatIo i = (s.blockIn up).rerun i (true && s.cpu.b != 1) := by
    simp [State.repeatIo_eq, s.blockIn_cpu, pred_bne_zero]
  have hout (i : Instr) (up : Bool) : (s.blockOut up).repeatIo i = (s.blockOut up).rerun i (true && s.cpu.b != 1) := by
    simp [State.repeatIo_eq, s.blockOut_cpu, pred_bne_zero]
  exact ⟨blockIn_does rfl rfl, blockIn_does rfl rfl, blockIn_does (congrArg Host.Outcome.next (hin _ _)) rfl,
    blockIn_does (congrArg Host.Outcome.next (hin _ _)) rfl, blockOut_doesOutAs rfl rfl, blockOut_doesOutAs rfl rfl,
    blockOut_doesOutAs (congrArg Host.Outcome.next (hout _ _)) rfl,
    blockOut_doesOutAs (congrArg Host.Outcome.next (hout _ _)) rfl⟩

end Sys2Proof.Machine
end

section
/-! PROOFS. The 8-bit arithmetic and logic (spec/43_alu8.md R290 to R307) and DAA over its results (spec/44_general_control.md
R320): the flags in the rules' integer formulas, each instruction over them, and decimal arithmetic digit by digit. From these:
O35, O36, O37, O38, O39 and O40. -/

namespace Sys2Proof.Machine

open Claims

/-! ## The flags (R291 to R307) -/

/-- The flags of R12 by the bits of the number. -/
theorem szxyF_eq (v : Byte) (h pv n c : Bool) :
    szxyF v h pv n c = flagByte (bit v.toNat 7) (v.toNat == 0) (bit v.toNat 5) h (bit v.toNat 3) pv n c := by
  simp only [szxyF, packF_eq, byte_beq_zero, bit_toNat]

theorem getLsbD_seven (v : Byte) : v.getLsbD 7 = decide (128 ≤ v.toNat) :=
  (BitVec.msb_eq_getLsbD_last v).symm.trans (BitVec.msb_eq_decide v)

section
variable (a v : Byte) (c : Bool)

theorem toNat_add_carry : (a + v + carryByte c).toNat = (a.toNat + v.toNat + c.toNat) % 256 := by
  rw [BitVec.toNat_add, BitVec.toNat_add, carryByte_toNat, Nat.mod_add_mod]

theorem ofInt_sub_carry : BitVec.ofInt 8 ((a.toNat : Int) - v.toNat - c.toNat) = a - v - carryByte c := by
  simp only [Int.sub_eq_add_neg, BitVec.ofInt_add, BitVec.ofInt_neg, BitVec.ofInt_natCast, ← carryByte_toNat,
    BitVec.ofNat_toNat, BitVec.setWidth_eq, BitVec.sub_eq_add_neg]

theorem toNat_sub_carry : (a - v - carryByte c).toNat = (a.toNat + 256 - v.toNat - c.toNat) % 256 := by
  have hc := c.toNat_le
  rw [← carryByte_toNat] at *
  bv_omega

/-- A sum overflows when its operands agree in sign and its result does not. -/
theorem add_overflow_eq :
    (a.getLsbD 7 == v.getLsbD 7 && (a + v + carryByte c).getLsbD 7 != a.getLsbD 7) =
      decide (a.toInt + v.toInt + c.toNat < -128 ∨ 127 < a.toInt + v.toInt + c.toNat) := by
  have ha := a.isLt
  have hv := v.isLt
  have hc := c.toNat_le
  rw [Bool.eq_iff_iff]
  simp only [getLsbD_seven, toNat_add_carry, BitVec.toInt_eq_toNat_cond, Bool.and_eq_true, beq_iff_eq, bne_iff_ne,
    ne_eq, decide_eq_true_eq, decide_eq_decide]
  split <;> split <;> omega

/-- A difference overflows when its operands differ in sign and its result differs from the first. -/
theorem sub_overflow_eq :
    (a.getLsbD 7 != v.getLsbD 7 && (a - v - carryByte c).getLsbD 7 != a.getLsbD 7) =
      decide (a.toInt - v.toInt - c.toNat < -128 ∨ 127 < a.toInt - v.toInt - c.toNat) := by
  have ha := a.isLt
  have hv := v.isLt
  have hc := c.toNat_le
  rw [Bool.eq_iff_iff]
  simp only [getLsbD_seven, toNat_sub_carry, BitVec.toInt_eq_toNat_cond, Bool.and_eq_true, bne_iff_ne,
    ne_eq, decide_eq_true_eq, decide_eq_decide]
  split <;> split <;> omega

theorem borrow_eq : decide ((a.toNat : Int) - v.toNat - c.toNat < 0) = decide (a.toNat < v.toNat + c.toNat) :=
  decide_eq_decide.mpr (by omega)

theorem refAdd_eq : refAdd a v c = ((add8 a v c).r, (add8 a v c).f) := by
  have hr : BitVec.ofNat 8 (a.toNat + v.toNat + c.toNat) = a + v + carryByte c :=
    BitVec.eq_of_toNat_eq (by rw [toNat_add_carry]; rfl)
  simp only [refAdd, hr, add8, szxyF_eq, toNat_add_carry, bit_mod_256, add_overflow_eq, Nat.reduceLT]
  rfl

theorem refSub_eq : refSub a v c = ((sub8 a v c).r, (sub8 a v c).f) := by
  simp only [refSub, refSubFrom, ofInt_sub_carry, borrow_eq, ← sub_overflow_eq, sub8, szxyF_eq, id_eq]

theorem refCp_eq : refCp a v = cp8 a v := by
  have hr : a - v - carryByte false = a - v := BitVec.sub_zero _
  simp only [refCp, refSubFrom, ofInt_sub_carry, borrow_eq, ← sub_overflow_eq, cp8, packF_eq, hr, byte_beq_zero, bit_toNat]
  rfl

end

theorem refLogic_eq (r : Byte) (h : Bool) : refLogic r h = (r, szxypF r h false false) := by
  rw [refLogic, szxypF_eq]

theorem refInc_eq (v f : Byte) : refInc v (bit f.toNat 0) = ((inc8 v f).r, (inc8 v f).f) := by
  have hn : (v.toNat + 1) % 256 = (v + 1).toNat := (BitVec.toNat_add v 1).symm
  have hh : ∀ v : Byte, decide (v.toNat % 16 = 15) = (v.extractLsb' 0 4 == 15#4) := by decide
  have hpv : ∀ v : Byte, decide (v.toInt = 127) = (v == 0x7F) := by decide
  simp only [refInc, inc8, szxyF_eq, hn, hh, hpv, bit_toNat f, flagC, BitVec.ofNat_toNat, BitVec.setWidth_eq]

theorem refDec_eq (v f : Byte) : refDec v (bit f.toNat 0) = ((dec8 v f).r, (dec8 v f).f) := by
  have hn : (v.toNat + 255) % 256 = (v - 1).toNat := by bv_omega
  have hh : ∀ v : Byte, decide (v.toNat % 16 = 0) = (v.extractLsb' 0 4 == 0#4) := by decide
  have hpv : ∀ v : Byte, decide (v.toInt = -128) = (v == 0x80) := by decide
  simp only [refDec, dec8, szxyF_eq, hn, hh, hpv, bit_toNat f, flagC, BitVec.ofNat_toNat, BitVec.setWidth_eq]

/-! ## ADD to CP (R290 to R298) -/

/-- What an ALU operation makes of A and F with the operand `v` (R291 to R298). -/
def State.alu (s : State) (op : AluOp) (v : Byte) : State :=
  match op with
  | .add => s.addA v
  | .adc => s.adcA v
  | .sub => s.subA v
  | .sbc => s.sbcA v
  | .and => s.andA v
  | .xor => s.xorA v
  | .or => s.orA v
  | .cp => s.cpA v

/-- Every form of every operation reads its operand, runs the operation, and leaves MEMPTR as the form says (R290). -/
theorem exec_aluInstr (op : AluOp) (o : Src) (s : State) :
    exec (aluInstr op o) s = .next (((s.alu op (o.value s)).setMemptr (o.memptr s)).charge (aluInstr op o)) ∧
      (aluInstr op o).tstates = o.cost := by
  cases o with
  | indexed x d =>
    rw [Src.value, Src.memptr, ← s.ea_eq]
    cases x <;> cases op <;> exact ⟨rfl, rfl⟩
  | _ => cases op <;> exact ⟨rfl, rfl⟩

/-- An operation with the result `x` changes A, F and MEMPTR (R291 to R297). -/
theorem aluInstr_does {op : AluOp} {o : Src} {s : State} {x : Res8} (h : s.alu op (o.value s) = s.setAF x) :
    Does (aluInstr op o) s [.a, .f, .memptr] o.cost fun t => (t.cpu.a, t.cpu.f) = (x.r, x.f) ∧ t.cpu.memptr = o.memptr s := by
  obtain ⟨he, hc⟩ := exec_aluInstr op o s
  rw [h] at he
  refine does_of_charge he hc rfl ?_ ((((CoreOnly.refl s).setA _).setF _).setMemptr _) ⟨rfl, rfl⟩
  constructor <;> simp [State.setAF]

/-- Settles O35: each form leaves the result of `add8`, whose overflow is the signed sum's. -/
theorem addWithFlags : Obligations.AddWithFlags := by
  unfold Obligations.AddWithFlags
  intro s o
  simp only [refAdd_eq, bit_toNat]
  exact ⟨aluInstr_does rfl, aluInstr_does rfl⟩

/-- Settles O36: each form leaves the result of `sub8`, and CP F alone. -/
theorem subtractWithFlags : Obligations.SubtractWithFlags := by
  unfold Obligations.SubtractWithFlags
  intro s o
  simp only [refSub_eq, refCp_eq, bit_toNat]
  refine ⟨aluInstr_does rfl, aluInstr_does rfl, ?_⟩
  obtain ⟨he, hc⟩ := exec_aluInstr .cp o s
  refine does_of_charge he hc rfl ?_ (((CoreOnly.refl s).setF _).setMemptr _) ⟨rfl, rfl⟩
  constructor <;> simp [State.alu, State.cpA]

/-- Settles O37: each form leaves the operation's byte and its flags with parity. -/
theorem logicWithFlags : Obligations.LogicWithFlags := by
  unfold Obligations.LogicWithFlags
  intro s o
  simp only [refLogic_eq]
  exact ⟨aluInstr_does (x := and8 _ _) rfl, aluInstr_does (x := xor8 _ _) rfl, aluInstr_does (x := or8 _ _) rfl⟩

/-! ## INC and DEC (R300 to R307) -/

theorem State.setReg8_keeps (s : State) (r : Reg8) (v : Byte) : Keeps [regCell r] s.cpu (s.setReg8 r v).cpu := by
  cases r <;> constructor <;> simp [State.setReg8, regCell]

/-- A change of F adds it to the cells that may differ. -/
theorem keeps_setF {ws ws' : List Cell} {s u : State} (h : Keeps ws s.cpu u.cpu) (hws : .f :: ws ⊆ ws') (v : Byte) :
    Keeps ws' s.cpu (u.setF v).cpu := by
  obtain ⟨hf, hws⟩ := List.cons_subset.mp hws
  have hnot {x : Cell} (hx : x ∉ ws') : x ∉ ws := mt (@hws x) hx
  cases h
  constructor <;> simp_all

section
variable {i : Instr} {s : State} {x : Res8} {cost : Nat} (hc : i.tstates = cost)
include hc

/-- INC and DEC of a register. -/
theorem setReg8F_does {r : Reg8} (he : exec i s = .next (((s.setReg8 r x.r).setF x.f).charge i)) :
    Does i s [regCell r, .f] cost fun t => (t.reg8 r, t.cpu.f) = (x.r, x.f) := by
  refine does_of_charge he hc ?_ (keeps_charge (keeps_setF (s.setReg8_keeps r x.r) (by simp) x.f) i)
    (((CoreOnly.refl s).setReg8 r _).setF _) ?_
  · exact congrArg Prod.snd (s.setReg8_kept r x.r)
  · cases r <;> rfl

/-- INC and DEC of an index half. -/
theorem setHalfF_does {y : IdxReg} {h : Half} (he : exec i s = .next (((s.setHalf y h x.r).setF x.f).charge i)) :
    Does i s [idxCell y, .f] cost fun t =>
      (t.half y h, t.cpu.f) = (x.r, x.f) ∧ ∀ k, k ≠ h → t.half y k = s.half y k := by
  have hhalf (k : Half) : (((s.setHalf y h x.r).setF x.f).charge i).half y k = (s.setHalf y h x.r).half y k := by
    cases y <;> rfl
  refine does_of_charge he hc ?_ (keeps_charge (keeps_setF (s.setHalf_keeps y x.r h) (by simp) x.f) i)
    ((s.setHalf_coreOnly y _ h).setF _) ⟨?_, fun k hk => ?_⟩
  · exact congrArg Prod.snd (s.setHalf_kept y h x.r)
  · rw [hhalf, State.half_setHalf]
    rfl
  · rw [hhalf, s.half_setHalf_ne y _ hk]

/-- INC and DEC of a byte of memory with the value MEMPTR gets. -/
theorem writeByteF_doesStore {a m : Word} (he : exec i s = .next ((((s.writeByte a x.r).setF x.f).setMemptr m).charge i)) :
    DoesStore i s [.f, .memptr] cost [(a, x.r)] fun t => t.cpu.f = x.f ∧ t.cpu.memptr = m := by
  refine doesStore_of_charge he hc ?_ ?_ (((CoreOnly.refl _).setF _).setMemptr m) ⟨rfl, rfl⟩
  · simp
  · constructor <;> simp

/-- INC and DEC of a byte of memory without a MEMPTR rule. -/
theorem writeByteFPlain_doesStore {a : Word} (he : exec i s = .next (((s.writeByte a x.r).setF x.f).charge i)) :
    DoesStore i s [.f, .memptr] cost [(a, x.r)] fun t => t.cpu.f = x.f ∧ t.cpu.memptr = s.cpu.memptr := by
  have hm : ((s.writeByte a x.r).setF x.f).cpu.memptr = s.cpu.memptr := by simp
  rw [← State.setMemptr_of_eq hm] at he
  exact writeByteF_doesStore hc he

end

/-- Settles O38: the register or half, and F, alone change. -/
theorem incDecRegister : Obligations.IncDecRegister := by
  unfold Obligations.IncDecRegister
  intro s r h
  simp only [refInc_eq, refDec_eq]
  exact ⟨setReg8F_does rfl rfl, setReg8F_does rfl rfl, setHalfF_does (y := .ix) rfl rfl, setHalfF_does (y := .ix) rfl rfl,
    setHalfF_does (y := .iy) rfl rfl, setHalfF_does (y := .iy) rfl rfl⟩

/-- Settles O39: a store of the result, then F, and MEMPTR in the indexed forms. -/
theorem incDecMemory : Obligations.IncDecMemory := by
  unfold Obligations.IncDecMemory
  intro s d
  have hx : plusSigned s.cpu.ix d = s.ea .ix d := (s.ea_eq .ix d).symm
  have hy : plusSigned s.cpu.iy d = s.ea .iy d := (s.ea_eq .iy d).symm
  simp only [refInc_eq, refDec_eq, hx, hy]
  exact ⟨writeByteFPlain_doesStore rfl rfl, writeByteFPlain_doesStore rfl rfl, writeByteF_doesStore rfl rfl,
    writeByteF_doesStore rfl rfl, writeByteF_doesStore rfl rfl, writeByteF_doesStore rfl rfl⟩

/-! ## Decimal arithmetic (R291 to R294 with R320) -/

section
variable (s z y h x pv n c : Bool)

theorem flagH_packF : flagH (packF s z y h x pv n c) = h := by
  revert s z y h x pv n c
  decide

theorem flagN_packF : flagN (packF s z y h x pv n c) = n := by
  revert s z y h x pv n c
  decide

theorem flagC_packF : flagC (packF s z y h x pv n c) = c := by
  revert s z y h x pv n c
  decide

end

section
variable (a f : Byte)

theorem daaCorrection_eq :
    (daaCorrection a f).1.toNat =
        (if flagH f ∨ 9 < a.toNat % 16 then 6 else 0) + (if flagC f ∨ 153 < a.toNat then 96 else 0) ∧
      (daaCorrection a f).2 = decide (flagC f ∨ 153 < a.toNat) := by
  by_cases hl : flagH f ∨ 9 < a.toNat % 16 <;> by_cases hu : flagC f ∨ 153 < a.toNat <;>
    simp [daaCorrection, hl, hu]

theorem flagC_daa8 : flagC (daa8 a f).f = decide (flagC f ∨ 153 < a.toNat) :=
  (flagC_packF ..).trans (daaCorrection_eq a f).2

theorem daa8_toNat_of_add (hn : flagN f = false) :
    (daa8 a f).r.toNat = (a.toNat + (daaCorrection a f).1.toNat) % 256 := by
  simp [daa8, hn]

theorem daa8_toNat_of_sub (hn : flagN f = true) :
    (daa8 a f).r.toNat = (a.toNat + 256 - (daaCorrection a f).1.toNat) % 256 := by
  simp only [daa8, hn, if_true]
  bv_omega

end

theorem bcd_toNat {n : Nat} (hn : n < 100) : (bcd n).toNat = n / 10 * 16 + n % 10 := by
  rw [bcd, BitVec.toNat_ofNat]
  omega

/-! The correction over the sum of the low digits `l` and that of the high digits `h`. In a difference each digit of the first
number is taken 10 higher, so that no sum is negative. -/

theorem decimal_sum : ∀ h < 19, ∀ l < 20,
    let r := (h * 16 + l) % 256
    (r + ((if 15 < l ∨ 9 < r % 16 then 6 else 0) + if 255 < h * 16 + l ∨ 153 < r then 96 else 0)) % 256 =
        (h * 10 + l) % 100 / 10 * 16 + (h * 10 + l) % 100 % 10 ∧
      (255 < h * 16 + l ∨ 153 < r ↔ 100 ≤ h * 10 + l) := by
  decide

theorem decimal_difference : ∀ h < 20, ∀ l < 20,
    let r := (h * 16 + l + 86) % 256
    10 ≤ h * 10 + l →
    (r + 256 - ((if l < 10 ∨ 9 < r % 16 then 6 else 0) + if h * 10 + l < 110 ∨ 153 < r then 96 else 0)) % 256 =
        (h * 10 + l - 10) % 100 / 10 * 16 + (h * 10 + l - 10) % 100 % 10 ∧
      (h * 10 + l < 110 ∨ 153 < r ↔ h * 10 + l < 110) := by
  decide

section
variable {x y : Nat} (hx : x < 100) (hy : y < 100) (c : Bool)
include hx hy

theorem daa8_add8_bcd :
    let sum := add8 (bcd x) (bcd y) c
    (daa8 sum.r sum.f).r = bcd ((x + y + c.toNat) % 100) ∧ flagC (daa8 sum.r sum.f).f = decide (100 ≤ x + y + c.toNat) := by
  intro sum
  have hc := c.toNat_le
  obtain ⟨h, hh⟩ : ∃ h, h = x / 10 + y / 10 := ⟨_, rfl⟩
  obtain ⟨l, hl⟩ : ∃ l, l = x % 10 + y % 10 + c.toNat := ⟨_, rfl⟩
  have hsum : x + y + c.toNat = h * 10 + l := by omega
  have hn : (bcd x).toNat + (bcd y).toNat + c.toNat = h * 16 + l := by
    rw [bcd_toNat hx, bcd_toNat hy]
    omega
  have hlow : (bcd x).toNat % 16 + (bcd y).toNat % 16 + c.toNat = l := by
    rw [bcd_toNat hx, bcd_toNat hy]
    omega
  have hr : sum.r.toNat = (h * 16 + l) % 256 := hn ▸ toNat_add_carry ..
  have hH : flagH sum.f = decide (15 < l) := hlow ▸ flagH_packF ..
  have hN : flagN sum.f = false := flagN_packF ..
  have hC : flagC sum.f = decide (255 < h * 16 + l) := hn ▸ flagC_packF ..
  obtain ⟨hdigits, hcarry⟩ := decimal_sum h (by omega) l (by omega)
  constructor
  · apply BitVec.eq_of_toNat_eq
    rw [daa8_toNat_of_add _ _ hN, (daaCorrection_eq ..).1, bcd_toNat (Nat.mod_lt _ (by decide)), hsum, ← hdigits]
    simp only [hH, hC, hr, decide_eq_true_iff]
  · rw [flagC_daa8, decide_eq_decide, hsum, ← hcarry, hC, hr, decide_eq_true_iff]

theorem daa8_sub8_bcd :
    let dif := sub8 (bcd x) (bcd y) c
    (daa8 dif.r dif.f).r = bcd ((x + 100 - y - c.toNat) % 100) ∧ flagC (daa8 dif.r dif.f).f = decide (x < y + c.toNat) := by
  intro dif
  have hc := c.toNat_le
  obtain ⟨h, hh⟩ : ∃ h, h = x / 10 + 10 - y / 10 := ⟨_, rfl⟩
  obtain ⟨l, hl⟩ : ∃ l, l = x % 10 + 10 - y % 10 - c.toNat := ⟨_, rfl⟩
  have hdif : x + 100 - y - c.toNat = h * 10 + l - 10 := by omega
  have hborrow : x < y + c.toNat ↔ h * 10 + l < 110 := by omega
  have hn : (bcd x).toNat + 256 - (bcd y).toNat - c.toNat = h * 16 + l + 86 := by
    rw [bcd_toNat hx, bcd_toNat hy]
    omega
  have hlow : (bcd x).toNat % 16 < (bcd y).toNat % 16 + c.toNat ↔ l < 10 := by
    rw [bcd_toNat hx, bcd_toNat hy]
    omega
  have hless : (bcd x).toNat < (bcd y).toNat + c.toNat ↔ h * 10 + l < 110 := by
    rw [bcd_toNat hx, bcd_toNat hy]
    omega
  have hr : dif.r.toNat = (h * 16 + l + 86) % 256 := hn ▸ toNat_sub_carry ..
  have hH : flagH dif.f = decide (l < 10) := (flagH_packF ..).trans (decide_eq_decide.mpr hlow)
  have hN : flagN dif.f = true := flagN_packF ..
  have hC : flagC dif.f = decide (h * 10 + l < 110) := (flagC_packF ..).trans (decide_eq_decide.mpr hless)
  obtain ⟨hdigits, hcarry⟩ := decimal_difference h (by omega) l (by omega) (by omega)
  constructor
  · apply BitVec.eq_of_toNat_eq
    rw [daa8_toNat_of_sub _ _ hN, (daaCorrection_eq ..).1, bcd_toNat (Nat.mod_lt _ (by decide)), hdif, ← hdigits]
    simp only [hH, hC, hr, decide_eq_true_iff]
  · rw [flagC_daa8, decide_eq_decide, hborrow, ← hcarry, hC, hr, decide_eq_true_iff]

end

/-- Settles O40: the correction carries from digit to digit what the byte carries or should carry. -/
theorem decimalArithmetic : Obligations.DecimalArithmetic := by
  unfold Obligations.DecimalArithmetic
  intro x y hx hy c sum dif
  obtain ⟨hsum, hcarry⟩ := daa8_add8_bcd hx hy c
  obtain ⟨hdif, hborrow⟩ := daa8_sub8_bcd hx hy c
  exact ⟨hsum, hcarry, hdif, hborrow⟩

end Sys2Proof.Machine
end

section
/-! PROOFS. General-purpose arithmetic and CPU control (spec/44_general_control.md R320 to R334): the operations on A and F, and
the controls, each of which is an update of the core and its charge. From these: O41 and O42. -/

namespace Sys2Proof.Machine

open Claims

/-! ## DAA, CPL, NEG, CCF and SCF (R320 to R324) -/

theorem daa8_r_toNat (a f : Byte) :
    (daa8 a f).r.toNat =
      if flagN f then (a.toNat + 256 - (daaCorrection a f).1.toNat) % 256
      else (a.toNat + (daaCorrection a f).1.toNat) % 256 := by
  split
  case isTrue hn => exact daa8_toNat_of_sub a f hn
  case isFalse hn => exact daa8_toNat_of_add a f (Bool.eq_false_of_not_eq_true hn)

/-- DAA in the rule's integer formulas (R320). -/
theorem refDaa_eq (a f : Byte) : refDaa a f = ((daa8 a f).r, (daa8 a f).f) := by
  obtain ⟨ht, hc⟩ := daaCorrection_eq a f
  have ht' : (daaCorrection a f).1.toNat =
      (if flagH f ∨ 9 < a.toNat % 16 then 6 else 0) + if (daaCorrection a f).2 then 96 else 0 := by
    simp only [ht, hc, decide_eq_true_iff]
  have hC : bit f.toNat 0 = flagC f := bit_toNat f 0
  have hN : bit f.toNat 1 = flagN f := bit_toNat f 1
  have hH : bit f.toNat 4 = flagH f := bit_toNat f 4
  unfold refDaa
  dsimp only
  rw [hC, hN, hH, ← hc, ← ht', ← daa8_r_toNat, BitVec.ofNat_toNat, BitVec.setWidth_eq, ← szxypF_eq]
  rfl

/-- The complement of a byte as a number (R321). -/
theorem cpl8_r_toNat (a f : Byte) : (cpl8 a f).r.toNat = 255 - a.toNat := by
  have h : ∀ a : Byte, (a ^^^ 0xFF).toNat = 255 - a.toNat := by decide
  exact h a

theorem cpl8_f_eq (a f : Byte) :
    (cpl8 a f).f =
      flagByte (bit f.toNat 7) (bit f.toNat 6) (bit (cpl8 a f).r.toNat 5) true (bit (cpl8 a f).r.toNat 3) (bit f.toNat 2) true
        (bit f.toNat 0) := by
  simp only [cpl8, packF_eq, bit_toNat, flagS, flagZ, flagPV, flagC]

theorem ccf8_eq (a f : Byte) :
    ccf8 a f =
      flagByte (bit f.toNat 7) (bit f.toNat 6) (bit a.toNat 5) (bit f.toNat 0) (bit a.toNat 3) (bit f.toNat 2) false
        (!bit f.toNat 0) := by
  simp only [ccf8, packF_eq, bit_toNat, flagS, flagZ, flagPV, flagC]

theorem scf8_eq (a f : Byte) :
    scf8 a f =
      flagByte (bit f.toNat 7) (bit f.toNat 6) (bit a.toNat 5) false (bit a.toNat 3) (bit f.toNat 2) false true := by
  simp only [scf8, packF_eq, bit_toNat, flagS, flagZ, flagPV]

section
variable {i : Instr} {s : State} {cost : Nat} {P : State → Prop}

/-- DAA, CPL and NEG: A and F alone change. -/
theorem setAF_does {x : Res8} (he : exec i s = .next ((s.setAF x).charge i)) (hc : i.tstates = cost)
    (hP : P ((s.setAF x).charge i)) : Does i s [.a, .f] cost P := by
  refine does_of_charge he hc rfl ?_ (((CoreOnly.refl s).setA x.r).setF x.f) hP
  constructor <;> simp [State.setAF]

/-- CCF and SCF: F alone changes. -/
theorem setF_does {v : Byte} (he : exec i s = .next ((s.setF v).charge i)) (hc : i.tstates = cost)
    (hP : P ((s.setF v).charge i)) : Does i s [.f] cost P := by
  refine does_of_charge he hc rfl ?_ ((CoreOnly.refl s).setF v) hP
  constructor <;> simp

end

/-- Settles O41: each operation leaves the byte and the flags of its rule in A and F. -/
theorem accumulatorControl : Obligations.AccumulatorControl := by
  unfold Obligations.AccumulatorControl
  intro s y f
  simp only [refDaa_eq, refSub_eq]
  exact ⟨setAF_does rfl rfl rfl, setAF_does rfl rfl ⟨cpl8_r_toNat _ s.cpu.f, cpl8_f_eq _ _⟩,
    setAF_does (x := neg8 _) rfl rfl rfl, setF_does rfl rfl (ccf8_eq _ _), setF_does rfl rfl (scf8_eq _ _)⟩

/-! ## NOP, HALT, DI, EI, IM and the redundant prefixes (R325 to R334) -/

section
variable {i : Instr} {s : State} {cost : Nat} (hc : i.tstates = cost)
include hc

/-- NOP and the ED no-op: the charge alone. -/
theorem charge_does (he : exec i s = .next (s.charge i)) : Does i s [] cost fun _ => True := by
  refine does_of_charge he hc rfl ?_ (.refl s) trivial
  constructor <;> simp

/-- IM: the interrupt mode alone changes. -/
theorem setIm_does {m : IntMode} (he : exec i s = .next ((s.setIm m).charge i)) :
    Does i s [.im] cost fun t => t.cpu.im = m := by
  refine does_of_charge he hc rfl ?_ rfl rfl
  constructor <;> simp

/-- A redundant prefix: `int_block` alone changes. -/
theorem setIntBlock_does {b : Bool} (he : exec i s = .next ((s.setIntBlock b).charge i)) :
    Does i s [.intBlock] cost fun t => t.cpu.intBlock = b := by
  refine does_of_charge he hc rfl ?_ rfl rfl
  constructor <;> simp

end

/-- HALT moves PC back by one (R326). -/
theorem halt_does (s : State) :
    Does .halt s [.pc, .halted] 4 fun t => t.cpu.pc = s.cpu.pc - 1 ∧ t.cpu.halted = true := by
  refine does_of_charge (u := (s.setPc (s.cpu.pc - 1)).setHalted true) rfl rfl rfl ?_ rfl ⟨rfl, rfl⟩
  constructor <;> simp

theorem di_does (s : State) : Does .di s [.iff1, .iff2] 4 fun t => t.cpu.iff1 = false ∧ t.cpu.iff2 = false := by
  refine does_of_charge (u := (s.setIff1 false).setIff2 false) rfl rfl rfl ?_ rfl ⟨rfl, rfl⟩
  constructor <;> simp

theorem ei_does (s : State) :
    Does .ei s [.iff1, .iff2, .intBlock] 4 fun t =>
      t.cpu.iff1 = true ∧ t.cpu.iff2 = true ∧ t.cpu.intBlock = true := by
  refine does_of_charge (u := ((s.setIff1 true).setIff2 true).setIntBlock true) rfl rfl rfl ?_ rfl ⟨rfl, rfl, rfl⟩
  constructor <;> simp

/-- Settles O42: each instruction is its updates of the core, and the charge. -/
theorem cpuControl : Obligations.CpuControl := by
  unfold Obligations.CpuControl
  intro s y op f
  exact ⟨charge_does rfl rfl, charge_does rfl rfl, halt_does s, di_does s, ei_does s, setIm_does rfl rfl, setIm_does rfl rfl,
    setIm_does rfl rfl, setIntBlock_does rfl rfl, setIntBlock_does rfl rfl⟩

end Sys2Proof.Machine
end

section
/-! PROOFS. 16-bit arithmetic (spec/45_alu16.md R350 to R357): the flags in the rules' integer formulas, and the instructions as
updates of HL, of an index register or of a pair. From these: O44 and O45. -/

namespace Sys2Proof.Machine

open Claims

/-! ## The flags (R350 to R352) -/

theorem carryWord_toNat (c : Bool) : (carryWord c).toNat = c.toNat := by
  cases c <;> rfl

/-- A bit of a sum or difference modulo 65536 is that bit of the number it is the residue of. -/
theorem getLsbD_of_toNat {r : Word} {n : Nat} (hr : r.toNat = n % 65536) {k : Nat} (hk : k < 16) :
    r.getLsbD k = bit n k := by
  have hmod : (n % 65536).testBit k = n.testBit k := by simpa [hk] using Nat.testBit_mod_two_pow n 16 k
  rw [← BitVec.testBit_toNat, hr, hmod, Nat.testBit_eq_decide_div_mod_eq, bit]

theorem ofNat_of_toNat {r : Word} {n : Nat} (hr : r.toNat = n % 65536) : BitVec.ofNat 16 n = r :=
  BitVec.eq_of_toNat_eq hr.symm

theorem word_beq_zero (r : Word) : (r == 0) = (r.toNat == 0) := by
  rw [Bool.eq_iff_iff, beq_iff_eq, beq_iff_eq, BitVec.toNat_eq]
  rfl

theorem getLsbD_fifteen (r : Word) : r.getLsbD 15 = decide (32768 ≤ r.toNat) :=
  (BitVec.msb_eq_getLsbD_last r).symm.trans (BitVec.msb_eq_decide r)

section
variable (a v : Word) (c : Bool)

theorem toNat_add_carryWord : (a + v + carryWord c).toNat = (a.toNat + v.toNat + c.toNat) % 65536 := by
  rw [BitVec.toNat_add, BitVec.toNat_add, carryWord_toNat, Nat.mod_add_mod]

theorem toNat_sub_carryWord : (a - v - carryWord c).toNat = (a.toNat + 65536 - v.toNat - c.toNat) % 65536 := by
  have hc := c.toNat_le
  rw [← carryWord_toNat] at *
  bv_omega

theorem ofInt_sub_carryWord : BitVec.ofInt 16 ((a.toNat : Int) - v.toNat - c.toNat) = a - v - carryWord c := by
  simp only [Int.sub_eq_add_neg, BitVec.ofInt_add, BitVec.ofInt_neg, BitVec.ofInt_natCast, ← carryWord_toNat,
    BitVec.ofNat_toNat, BitVec.setWidth_eq, BitVec.sub_eq_add_neg]

/-- A sum overflows when its operands agree in sign and its result does not. -/
theorem addWord_overflow_eq :
    (a.getLsbD 15 == v.getLsbD 15 && (a + v + carryWord c).getLsbD 15 != a.getLsbD 15) =
      decide (a.toInt + v.toInt + c.toNat < -32768 ∨ 32767 < a.toInt + v.toInt + c.toNat) := by
  have ha := a.isLt
  have hv := v.isLt
  have hc := c.toNat_le
  rw [Bool.eq_iff_iff]
  simp only [getLsbD_fifteen, toNat_add_carryWord, BitVec.toInt_eq_toNat_cond, Bool.and_eq_true, beq_iff_eq, bne_iff_ne,
    ne_eq, decide_eq_true_eq, decide_eq_decide]
  split <;> split <;> omega

/-- A difference overflows when its operands differ in sign and its result differs from the first. -/
theorem subWord_overflow_eq :
    (a.getLsbD 15 != v.getLsbD 15 && (a - v - carryWord c).getLsbD 15 != a.getLsbD 15) =
      decide (a.toInt - v.toInt - c.toNat < -32768 ∨ 32767 < a.toInt - v.toInt - c.toNat) := by
  have ha := a.isLt
  have hv := v.isLt
  have hc := c.toNat_le
  rw [Bool.eq_iff_iff]
  simp only [getLsbD_fifteen, toNat_sub_carryWord, BitVec.toInt_eq_toNat_cond, Bool.and_eq_true, bne_iff_ne,
    ne_eq, decide_eq_true_eq, decide_eq_decide]
  split <;> split <;> omega

/-- ADD in the rule's integer formulas (R350). -/
theorem refAdd16_eq (f : Byte) : refAdd16 a v f = ((add16 a v f).r, (add16 a v f).f) := by
  have hr : (a + v).toNat = (a.toNat + v.toNat) % 65536 := BitVec.toNat_add ..
  simp only [refAdd16, add16, packF_eq, ofNat_of_toNat hr, getLsbD_of_toNat hr, bit_toNat, Nat.reduceLT, flagS, flagZ, flagPV]
  rfl

/-- ADC in the rule's integer formulas (R351). -/
theorem refAdc16_eq : refAdc16 a v c = ((adc16 a v c).r, (adc16 a v c).f) := by
  have hr := toNat_add_carryWord a v c
  simp only [refAdc16, ← addWord_overflow_eq, ofNat_of_toNat hr, adc16, packF_eq, getLsbD_of_toNat hr, word_beq_zero, hr,
    Nat.reduceLT]
  rfl

/-- SBC in the rule's integer formulas (R352). -/
theorem refSbc16_eq : refSbc16 a v c = ((sbc16 a v c).r, (sbc16 a v c).f) := by
  have hborrow : (a.toNat : Int) - v.toNat - c.toNat < 0 ↔ a.toNat < v.toNat + c.toNat := by omega
  simp only [refSbc16, ofInt_sub_carryWord, hborrow, bit_toNat, sbc16, subWord_overflow_eq, packF_eq, word_beq_zero]

end

/-! ## ADD, ADC and SBC (R350 to R353) -/

section
variable {i : Instr} {s : State} {cost : Nat} (hc : i.tstates = cost)
include hc

/-- A result for HL: HL, F and MEMPTR alone change. -/
theorem setHlF_does {x : Res16} (he : exec i s = .next ((s.setHlF x).charge i)) :
    Does i s [.h, .l, .f, .memptr] cost fun t => (t.hl, t.cpu.f) = (x.r, x.f) ∧ t.cpu.memptr = s.hl + 1 := by
  have hhl : ((s.setHlF x).charge i).hl = x.r := Word.ofBytes_hi_lo x.r
  refine does_of_charge he hc rfl ?_ ((((CoreOnly.refl s).setHl _).setF _).setMemptr _) ⟨by rw [hhl]; rfl, rfl⟩
  constructor <;> simp [State.setHlF]

/-- A sum for an index register: it, F and MEMPTR alone change. -/
theorem addXy_does {x : IdxReg} {q : IdxPair} (he : exec i s = .next ((s.addXy x q).charge i)) :
    Does i s [idxCell x, .f, .memptr] cost fun t =>
      (t.xy x, t.cpu.f) = refAdd16 (s.xy x) (s.idxPair x q) s.cpu.f ∧ t.cpu.memptr = s.xy x + 1 := by
  refine does_of_charge he hc ?_
    (keeps_charge (keeps_setMemptr (keeps_setF (s.setXy_keeps _ x) (List.Subset.refl _) _) (by simp) _) i)
    ((((CoreOnly.refl s).setXy x _).setF _).setMemptr _) ⟨?_, rfl⟩
  · exact s.setXy_clk _ x
  · rw [refAdd16_eq]
    cases x <;> rfl

end

/-- Settles O44: the sum or difference goes to its register and F, and the old value plus 1 to MEMPTR. -/
theorem wordArithmetic : Obligations.WordArithmetic := by
  unfold Obligations.WordArithmetic
  intro s p q c
  have hflag : c = flagC s.cpu.f := bit_toNat s.cpu.f 0
  rw [hflag, refAdd16_eq s.hl, refAdc16_eq, refSbc16_eq]
  exact ⟨setHlF_does rfl rfl, setHlF_does rfl rfl, setHlF_does rfl rfl, addXy_does (x := .ix) rfl rfl,
    addXy_does (x := .iy) rfl rfl⟩

/-! ## INC and DEC (R354 to R357) -/

/-- A weaker property of the state that an instruction answers. -/
theorem does_imp {i : Instr} {s : State} {ws : List Cell} {cost : Nat} {P Q : State → Prop} (h : Does i s ws cost P)
    (hPQ : ∀ t, P t → Q t) : Does i s ws cost Q := by
  obtain ⟨t, he, hc, ho, hP⟩ := h
  exact ⟨t, he, hc, ho, hPQ t hP⟩

theorem toNat_eq_of_eq_add_one {w u : Word} (h : u = w + 1) : u.toNat = (w.toNat + 1) % 65536 :=
  h ▸ BitVec.toNat_add w 1

theorem toNat_eq_of_eq_sub_one {w u : Word} (h : u = w - 1) : u.toNat = (w.toNat + 65535) % 65536 := by
  rw [h, BitVec.toNat_sub, Nat.add_comm]
  rfl

/-- Settles O45: each is a load of the pair or index register with its successor or predecessor. -/
theorem wordIncDec : Obligations.WordIncDec := by
  unfold Obligations.WordIncDec
  intro s p
  exact ⟨does_imp (loadPair_does rfl rfl) fun _ => toNat_eq_of_eq_add_one,
    does_imp (loadPair_does rfl rfl) fun _ => toNat_eq_of_eq_sub_one,
    does_imp (loadXy_does (x := .ix) rfl rfl) fun _ => toNat_eq_of_eq_add_one,
    does_imp (loadXy_does (x := .ix) rfl rfl) fun _ => toNat_eq_of_eq_sub_one,
    does_imp (loadXy_does (x := .iy) rfl rfl) fun _ => toNat_eq_of_eq_add_one,
    does_imp (loadXy_does (x := .iy) rfl rfl) fun _ => toNat_eq_of_eq_sub_one⟩

end Sys2Proof.Machine
end

section
/-! PROOFS. Rotates and shifts of A and of a register, and the digit rotates (spec/46_rotate_shift.md R380 to R391, R394,
R395). The number and the bit that a rotate gives are `refShift_eq`, beside the forms in memory. From these: O46 and O48. -/

namespace Sys2Proof.Machine

open Claims

/-! ## A and a register (R380 to R391) -/

/-- An accumulator rotate in the rule's formulas (R380 to R383): S, Z and PV are bits of the old F. -/
theorem refRotA_eq (o : Rot) (a f : Byte) : refRotA o a f = ((rotA o a f).r, (rotA o a f).f) := by
  simp only [refRotA, ← flagC_toNat, refShift_eq, rotA, packF_eq, bit_toNat, Bool.toNat_beq_one, flagS, flagZ, flagPV,
    BitVec.ofNat_toNat, BitVec.setWidth_eq]

/-- An accumulator rotate changes A and F alone. -/
theorem rotA_does {i : Instr} {s : State} {o : Rot} (he : exec i s = .next ((s.setAF (rotA o s.cpu.a s.cpu.f)).charge i))
    (hc : i.tstates = 4) : Does i s [.a, .f] 4 fun t => (t.cpu.a, t.cpu.f) = refRotA o s.cpu.a s.cpu.f :=
  setAF_does he hc (refRotA_eq o s.cpu.a s.cpu.f).symm

theorem exec_rotRInstr (o : Rot) (r : Reg8) (s : State) :
    exec (rotRInstr o r) s = .next ((s.rotReg o r).charge (rotRInstr o r)) ∧ (rotRInstr o r).tstates = 8 := by
  cases o <;> exact ⟨rfl, rfl⟩

/-- Settles O46: each form leaves the byte and the flags of its rotate in A or the register, and in F. -/
theorem rotateRegister : Obligations.RotateRegister := by
  unfold Obligations.RotateRegister
  intro s o r
  rw [refRot_eq]
  obtain ⟨he, hc⟩ := exec_rotRInstr o r s
  exact ⟨rotA_does rfl rfl, rotA_does rfl rfl, rotA_does rfl rfl, rotA_does rfl rfl, setReg8F_does hc he⟩

/-! ## The digits of A and (HL) (R394, R395) -/

theorem lowDigit_toNat (v : Byte) : (v.extractLsb' 0 4).toNat = v.toNat % 16 := BitVec.extractLsb'_toNat ..

theorem highDigit_toNat (v : Byte) : (v.extractLsb' 4 4).toNat = v.toNat / 16 := by
  have hv := v.isLt
  rw [BitVec.extractLsb'_toNat, Nat.shiftRight_eq_div_pow, Nat.mod_eq_of_lt (by omega)]

/-- The byte of two digits. -/
theorem ofNat_digits : ∀ h l : BitVec 4, BitVec.ofNat 8 (h.toNat * 16 + l.toNat) = h ++ l := by decide

theorem refDigit_eq (a f : Byte) : refDigit a f = digitF a f := by
  rw [refDigit, digitF, szxypF_eq, bit_toNat f, flagC]

/-- A store of a byte at HL and a digit `v` for A, with F and MEMPTR, as RLD and RRD do. -/
theorem setDigit_doesStore {i : Instr} {s : State} {m : Byte} {v : BitVec 4} {cost : Nat}
    (he : exec i s = .next (((s.writeByte s.hl m).setDigit v).charge i)) (hc : i.tstates = cost) :
    let a : Byte := s.cpu.a.extractLsb' 4 4 ++ v
    DoesStore i s [.a, .f, .memptr] cost [(s.hl, m)] fun t =>
      t.cpu.a = a ∧ t.cpu.f = refDigit a s.cpu.f ∧ t.cpu.memptr = s.hl + 1 := by
  intro a
  rw [refDigit_eq]
  refine doesStore_of_charge he hc ?_ ?_ ((((CoreOnly.refl _).setA _).setF _).setMemptr _) ?_
  · simp [State.setDigit]
  · constructor <;> simp [State.setDigit]
  · simp [State.setDigit, a, State.hl]

/-- Settles O48: each instruction makes of the three low digits a new byte for (HL) and a new low digit for A. -/
theorem rotateDigits : Obligations.RotateDigits := by
  unfold Obligations.RotateDigits
  intro s a m turns
  simp only [turns, a, m, ← lowDigit_toNat, ← highDigit_toNat, ofNat_digits]
  exact ⟨setDigit_doesStore rfl rfl, setDigit_doesStore rfl rfl⟩

end Sys2Proof.Machine
end

section
/-! PROOFS. Jumps and DJNZ (spec/48_jump_call_return.md R440 to R446). From this: O51. -/

namespace Sys2Proof.Machine

open Claims

/-- The target of a relative jump in the words of R143: the sum of R142, with PC for the index register. -/
theorem State.relative_eq (s : State) (e : Byte) : s.relative e = plusSigned s.cpu.pc e :=
  (s.setXy .ix s.cpu.pc).ea_eq .ix e

/-- A jump that is charged (R440 to R443): PC and MEMPTR are its target. -/
theorem jump_doesAs {taken : Bool} {i : Instr} {s : State} {w : Word} {cost n : Nat}
    (he : exec i s = .next ((s.jump w).tick n)) (hc : Costs i taken cost s ((s.jump w).tick n)) :
    DoesAs taken i s [.pc, .memptr] cost fun t => t.cpu.pc = w ∧ t.cpu.memptr = w := by
  refine ⟨_, he, hc, ⟨?_, ((CoreOnly.refl s).jump w).tick n⟩, rfl, rfl⟩
  constructor <;> simp

/-- A jump through a register, which leaves MEMPTR (R444, R445). -/
theorem setPc_does {i : Instr} {s : State} {w : Word} {cost : Nat} (he : exec i s = .next ((s.setPc w).charge i))
    (hc : i.tstates = cost) : Does i s [.pc] cost fun t => t.cpu.pc = w := by
  refine does_of_charge he hc rfl ?_ rfl rfl
  constructor <;> simp

/-- A conditional absolute jump sets MEMPTR in both its outcomes (R441). -/
theorem jpCcNn_does (s : State) (cc : Cond) (nn : Word) :
    Does (.jpCcNn cc nn) s [.pc, .memptr] 10 fun t =>
      t.cpu.pc = (if s.cond cc then nn else s.cpu.pc) ∧ t.cpu.memptr = nn := by
  cases hcc : s.cond cc with
  | true =>
    have he : exec (.jpCcNn cc nn) s = .next ((s.jump nn).charge (.jpCcNn cc nn)) :=
      congrArg (fun u : State => Host.Outcome.next (u.charge _)) (if_pos hcc)
    exact jump_doesAs he ⟨rfl, rfl⟩
  | false =>
    have he : exec (.jpCcNn cc nn) s = .next ((s.setMemptr nn).charge (.jpCcNn cc nn)) :=
      congrArg (fun u : State => Host.Outcome.next (u.charge _)) (if_neg (by simp [hcc]))
    refine does_of_charge he rfl rfl ?_ rfl ⟨rfl, rfl⟩
    constructor <;> simp

/-- DJNZ with B at 1: B becomes 0 and it does not jump (R446). -/
theorem djnz_does_of_last {s : State} (e : Byte) (hb : s.cpu.b = 1) : Does (.djnz e) s [.b] 8 fun t => t.cpu.b = 0 := by
  have he : exec (.djnz e) s = .next ((s.setB (s.cpu.b - 1)).charge (.djnz e)) :=
    congrArg Host.Outcome.next (if_neg (by simp [hb]))
  refine does_of_charge he rfl rfl ?_ rfl (by simp [hb])
  constructor <;> simp

/-- DJNZ with B not at 1 jumps (R446). -/
theorem djnz_doesAs_of_again {s : State} (e : Byte) (hb : s.cpu.b ≠ 1) :
    DoesAs true (.djnz e) s [.b, .pc, .memptr] 13 fun t =>
      t.cpu.b = s.cpu.b - 1 ∧ t.cpu.pc = s.relative e ∧ t.cpu.memptr = s.relative e := by
  have hne : (s.cpu.b - 1 != 0) = true := by
    rw [bne_iff_ne]
    bv_omega
  have he : exec (.djnz e) s = .next (((s.setB (s.cpu.b - 1)).jump (s.relative e)).chargeTaken (.djnz e)) :=
    congrArg Host.Outcome.next (if_pos hne)
  refine ⟨_, he, ⟨rfl, rfl⟩, ⟨?_, rfl⟩, rfl, rfl, rfl⟩
  constructor <;> simp

/-- Settles O51: a jump is a load of PC, with MEMPTR but for the jumps through a register, and the charge of its outcome. -/
theorem jumps : Obligations.Jumps := by
  unfold Obligations.Jumps
  intro s cc jc e nn target
  have htarget : target = s.relative e := (s.relative_eq e).symm
  rw [htarget, refCond_eq, refCond_eq]
  refine ⟨jump_doesAs rfl ⟨rfl, rfl⟩, jpCcNn_does s cc nn, jump_doesAs rfl ⟨rfl, rfl⟩, ?_, setPc_does rfl rfl,
    setPc_does rfl rfl, setPc_does rfl rfl, ?_⟩
  · split
    case isTrue h => exact jump_doesAs (congrArg Host.Outcome.next (if_pos h)) ⟨rfl, rfl⟩
    case isFalse h => exact charge_does rfl (congrArg Host.Outcome.next (if_neg h))
  · split
    case isTrue hb => exact djnz_does_of_last e hb
    case isFalse hb => exact djnz_doesAs_of_again e hb

end Sys2Proof.Machine
end

section
/-! PROOFS. Interrupts and the frame boundary (spec/60_exceptions.md R530 to R541; spec/48_jump_call_return.md R451, R452): an
entry is a push of the address to resume at and changes of the core, a return pops it, and the boundary is the interrupt check,
the devices' catch-up and the host's calls. From these: O19 to O22. -/

namespace Sys2Proof.Machine

open Claims

/-! ## Taking an interrupt (R532, R537, R540) -/

/-- What a store leaves depends on the core by its clock alone. -/
theorem CoreOnly.writeByte {s t : State} (h : CoreOnly s t) (hclk : t.cpu.clk = s.cpu.clk) (a : Word) (v : Byte) :
    CoreOnly (s.writeByte a v) (t.writeByte a v) := by
  obtain ⟨c, rfl⟩ : ∃ c, t = { s with cpu := c } := ⟨_, h⟩
  rw [CoreOnly, State.writeByte_eq, State.writeByte_eq, State.accessClk_congr hclk rfl]
  rfl

theorem CoreOnly.storeDown {s t : State} (h : CoreOnly s t) (hclk : t.cpu.clk = s.cpu.clk) (a v : Word) :
    CoreOnly (s.storeDown a v) (t.storeDown a v) :=
  (h.writeByte hclk _ _).writeByte (by simpa using hclk) _ _

/-- Taking an interrupt changes, but for the core, what the push of the address to resume at stores. -/
theorem State.takeInterrupt_coreOnly (s : State) (n : Bool) (w : Option Word) (a : Word) (c : Nat) :
    CoreOnly (s.storeDown (s.cpu.sp - 2) (resumePc s)) (s.takeInterrupt n w a c) := by
  let s1 := ((s.exitHalt.setIff1 false).setIff2 (n && s.cpu.iff2)).refresh 1
  have h1 : s1.cpu.pc = resumePc s ∧ s1.cpu.sp = s.cpu.sp ∧ s1.cpu.clk = s.cpu.clk := by
    simp [s1, State.exitHalt_eq, resumePc]
  obtain ⟨hpc, hsp, hclk⟩ := h1
  have hs1 : CoreOnly s s1 := by
    simp only [s1, State.exitHalt_eq]
    rfl
  have hpush : CoreOnly (s.storeDown (s.cpu.sp - 2) (resumePc s)) (s1.push16 s1.cpu.pc) := by
    rw [State.push16_eq, hpc, hsp]
    exact (hs1.storeDown hclk _ _).setSp _
  exact ((hpush.jump _).tick c).trans rfl

/-- The frame of an entry: the push of the address to resume at, and the cells of the core that differ. -/
theorem State.takeInterrupt_stores {s : State} {n : Bool} {w : Option Word} {a : Word} {c : Nat} {ws : List Cell}
    (hk : Keeps ws s.cpu (s.takeInterrupt n w a c).cpu) :
    Stores ws s (s.takeInterrupt n w a c) (wordCells (s.cpu.sp - 2) (resumePc s)) :=
  stores_of_core (s.storeDown_stores _ _) hk (s.takeInterrupt_coreOnly n w a c)

/-- The maskable interrupt enters by the address, the table and the cost of its mode (R533 to R537). -/
theorem State.acceptInt_cases {s : State} (hbus : s.cpu.im = .im0 → s.params.intBusByte &&& 0xC7 = 0xC7) :
    ∃ w a c, s.acceptInt = .next (s.takeInterrupt false w a c) ∧ c = (if s.cpu.im = .im2 then 19 else 13) ∧
      (s.cpu.im = .im0 → w = some ((s.params.intBusByte &&& 0x38).setWidth 16)) ∧
      (s.cpu.im = .im1 → w = some 0x0038) ∧
      (s.cpu.im = .im2 → w = none ∧ a = Word.ofBytes s.cpu.i s.params.intBusByte) := by
  unfold State.acceptInt
  cases him : s.cpu.im with
  | im0 => exact ⟨_, _, _, if_pos (hbus him), by simp⟩
  | im1 => exact ⟨_, _, _, rfl, by simp⟩
  | im2 => exact ⟨_, _, _, rfl, by simp⟩

/-- A word of two bytes in the rule's formula (R536). -/
theorem Word.ofNat_eq_ofBytes (h l : Byte) : BitVec.ofNat 16 (h.toNat * 256 + l.toNat) = Word.ofBytes h l := by
  have hn : h.toNat * 256 + l.toNat = (Word.ofBytes h l).toNat := by
    rw [Word.toNat_ofBytes]
    omega
  rw [hn, BitVec.ofNat_toNat, BitVec.setWidth_eq]

/-- Settles O19: every mode enters in the same way; the mode gives the address or the table, and the cost. -/
theorem interruptAcceptance : Obligations.InterruptAcceptance := by
  unfold Obligations.InterruptAcceptance
  intro s hbus
  obtain ⟨w, a, c, he, hc, h0, h1, h2⟩ := State.acceptInt_cases hbus
  obtain ⟨target, hcpu, hfixed, htable⟩ := s.takeInterrupt_cpu false w a c
  refine ⟨_, he, State.takeInterrupt_stores ?_, ?_⟩ <;> rw [hcpu]
  · constructor <;> simp
  refine ⟨rfl, rfl, rfl, rfl, rfl, rfl, rfl, ?_, fun him => hfixed _ (h0 him), fun him => hfixed _ (h1 him), fun him => ?_⟩
  · rw [hc]
    split <;> rfl
  · obtain ⟨hw, ha⟩ := h2 him
    rw [Word.ofNat_eq_ofBytes, ← ha]
    exact htable hw

theorem State.nmi_cpu (s : State) :
    s.nmi.cpu =
      { s.cpu with
        halted := false, iff1 := false, rlo := s.cpu.rlo + 1, sp := s.cpu.sp - 2
        pc := 0x0066, memptr := 0x0066, clk := s.cpu.clk + 11, intBlock := false } := by
  obtain ⟨target, hcpu, hfixed, -⟩ := s.takeInterrupt_cpu true (some 0x0066) 0 11
  rw [State.nmi, hcpu, hfixed _ rfl]
  rfl

theorem State.nmi_stores (s : State) :
    Stores [.sp, .pc, .memptr, .iff1, .rlo, .halted, .intBlock, .clk] s s.nmi (wordCells (s.cpu.sp - 2) (resumePc s)) := by
  refine State.takeInterrupt_stores ?_
  rw [← State.nmi, s.nmi_cpu]
  constructor <;> simp

/-- Settles O20: the entry at 0x0066, IFF2 kept. -/
theorem nonMaskableInterrupt : Obligations.NonMaskableInterrupt := by
  unfold Obligations.NonMaskableInterrupt
  intro s
  refine ⟨s.nmi_stores, ?_⟩
  simp [s.nmi_cpu]

/-! ## Returning from one (R451, R452) -/

theorem CoreOnly.setIff1 {s t : State} (h : CoreOnly s t) (b : Bool) : CoreOnly s (t.setIff1 b) := h.trans rfl

/-- RETI and RETN are a return with IFF1 from IFF2. -/
theorem returnFromInterrupt_does {i : Instr} {s : State} (he : exec i s = .next (s.returnFromInterrupt.charge i))
    (hc : i.tstates = 14) :
    Does i s [.pc, .memptr, .sp, .iff1] 14 fun t =>
      t.cpu.pc = s.readWord s.cpu.sp ∧ t.cpu.memptr = s.readWord s.cpu.sp ∧ t.cpu.sp = s.cpu.sp + 2 ∧
        t.cpu.iff1 = s.cpu.iff2 := by
  have hcore : CoreOnly s s.returnFromInterrupt := (((CoreOnly.refl s).setSp _).jump _).setIff1 _
  refine does_of_charge he hc ?_ ?_ hcore ?_
  · simp [State.returnFromInterrupt]
  · constructor <;> simp [State.returnFromInterrupt]
  · simp [State.returnFromInterrupt, State.popped]

/-- After an NMI on a writable stack the word on top is the address to resume at. -/
theorem State.readWord_nmi {s : State} (h1 : 0x4000 ≤ (s.cpu.sp - 1).toNat) (h2 : 0x4000 ≤ (s.cpu.sp - 2).toNat) :
    s.nmi.readWord (s.cpu.sp - 2) = resumePc s := by
  have hsp : s.cpu.sp - 1 = s.cpu.sp - 2 + 1 := by bv_omega
  have hstored := s.nmi_stores.stored
  exact State.readWord_of_stored (State.takeInterrupt_rom ..) (State.takeInterrupt_ram3 ..) h2 (hsp ▸ h1)
    (hstored _ _ (mem_wordCells.mpr (.inl ⟨rfl, rfl⟩))) (hstored _ _ (mem_wordCells.mpr (.inr ⟨rfl, rfl⟩)))

/-- Settles O21: the return pops what the NMI pushed, and IFF2 is as it was. -/
theorem returnFromInterrupt : Obligations.ReturnFromInterrupt := by
  unfold Obligations.ReturnFromInterrupt
  constructor
  · rintro s i (rfl | ⟨y, rfl⟩) <;> exact returnFromInterrupt_does rfl rfl
  · intro s y h1 h2
    obtain ⟨t, he, -, ⟨hk, -⟩, hpc, -, hsp, hiff1⟩ := returnFromInterrupt_does (i := .retn y) (s := s.nmi) rfl rfl
    have hiff2 : t.cpu.iff2 = s.nmi.cpu.iff2 := hk.iff2 (by simp)
    simp only [s.nmi_cpu] at hpc hsp hiff1 hiff2
    exact ⟨t, he, hpc.trans (State.readWord_nmi h1 h2), hsp.trans (BitVec.sub_add_cancel ..), hiff1, hiff2⟩

/-! ## The frame boundary (R530, R531, R538, R555, R570) -/

/-- The devices' catch-up and rollover, and the rebase of the clock (R530, R555, R570). -/
theorem State.rebase_devicesFrameEnd (s : State) : s.devicesFrameEnd.rebase = quietFrameEnd s := rfl

theorem State.runPending_eq (s : State) : s.runPending = afterHostCalls s := rfl

/-- The boundary after its interrupt check: the devices, the rebase and the host's calls. -/
theorem step_of_interruptCheck {s t : State} (hdue : s.frameDue = true) (ht : s.interruptCheck = .next t) :
    step s = .next (afterHostCalls (quietFrameEnd t)) := by
  rw [step, if_pos hdue, State.frameEnd, ht]
  exact congrArg Host.Outcome.next (by rw [State.rebase_devicesFrameEnd, State.runPending_eq])

/-- Without waiting host calls the boundary records no answer. -/
theorem afterHostCalls_of_none {s : State} (h : s.pending = []) : afterHostCalls s = { s with answers := [] } := by
  simp [afterHostCalls, h, State.hostActions]

/-- A host call that fails leaves the state as it was (R521, R584). -/
theorem State.hostAction_of_failed {s : State} {a : HostAction} {e : HostError} (h : (s.hostAction a).1 = .failed e) :
    (s.hostAction a).2 = s := by
  have hload {r : Except HostError State} (hr : (s.afterLoad r).1 = .failed e) : (s.afterLoad r).2 = s := by
    obtain ⟨t, -, ha⟩ | ⟨e', -, ha⟩ := s.afterLoad_cases r
    · rw [ha] at hr
      cases hr
    · rw [ha]
  cases a with
  | diskLoad drive format bytes protect => exact hload h
  | snapshotLoad snap => exact hload h
  | tapeSave | diskSave | snapshotSave => rfl
  | nmi | reset | tapePlay | tapeStop | tapeRewind | tapeLoad | diskEject | keys => cases h

/-- Settles O22: the check loses or takes the interrupt, and what follows it is the same. -/
theorem frameBoundary : Obligations.FrameBoundary := by
  unfold Obligations.FrameBoundary
  intro s t hdue
  refine ⟨fun hoff => step_of_interruptCheck hdue ?_, fun hon ht => step_of_interruptCheck hdue ?_,
    fun hnone => afterHostCalls_of_none hnone, fun _ _ => State.hostAction_of_failed⟩
  · simp [State.interruptCheck, hoff]
  · simp [State.interruptCheck, hon, ht]

end Sys2Proof.Machine
end

section
/-! PROOFS. The floppy controller without media and while busy (spec/60_exceptions.md R521, R565, R566) and the boundaries of a
tape (R569). From these: O59 and O60. -/

namespace Sys2Proof.Machine

/-! ## The floppy controller without media (R521, R565, R566) -/

theorem Fdc.ready_of_none {f : Fdc} (h : f.drive.media = none) : f.ready = false := by
  rw [Fdc.ready, h]
  rfl

/-- A Type II or III command starts a transfer when no command is active. -/
theorem Fdc.writeCommand_transfer {f : Fdc} {w : FdcTiming} {v : Byte} (hbusy : f.busy = false) (hv : 0x80 ≤ v.toNat)
    (hd : v.toNat / 16 ≠ 0xD) : ∃ x, f.writeCommand w v = f.startTransfer w v x := by
  rw [Fdc.writeCommand, if_neg hd, if_neg (by simp [hbusy])]
  split
  case h_1 | h_2 | h_3 | h_4 | h_5 | h_6 | h_7 | h_8 => omega
  all_goals exact ⟨_, rfl⟩

theorem Fdc.startTransfer_of_notReady {f : Fdc} (h : f.ready = false) (w : FdcTiming) (v : Byte) (x : Transfer) :
    f.startTransfer w v x =
      ({ f with command := v, intrq := false, status := 0x01, statusKind := .typeIIorIII, elapsed := 0, cursor := 0 } :
        Fdc).finish := by
  simp [Fdc.startTransfer, h]

/-- No transfer is under way: the controller neither waits for a byte nor requests one. -/
def Fdc.NoTransfer (f : Fdc) : Prop := ∀ x, (∀ d, f.phase ≠ .waiting x d) ∧ f.phase ≠ .request x

theorem Fdc.NoTransfer.of_idle {f : Fdc} (h : f.phase = .idle) : f.NoTransfer := fun x => by simp [h]

theorem Fdc.NoTransfer.dropTransfer {f : Fdc} (h : f.ready = false) : f.dropTransfer.NoTransfer := fun x =>
  ⟨fun d => (f.dropTransfer_phase h x d).1, (f.dropTransfer_phase h x 0).2⟩

section
variable {f : Fdc} (h : f.NoTransfer) (w : FdcTiming)
include h

/-- Step pulses lead to more of them, to the verify delay or to the end. -/
theorem Fdc.NoTransfer.runSteps : (f.runSteps w).NoTransfer := by
  unfold Fdc.runSteps
  split
  case h_1 pending inward _ =>
    dsimp only
    split
    · simp [Fdc.NoTransfer]
    · unfold Fdc.stepsDone
      dsimp only
      split
      · simp [Fdc.NoTransfer]
      · exact .of_idle rfl
  all_goals exact h

theorem Fdc.NoTransfer.runVerify : (f.runVerify w).NoTransfer := by
  unfold Fdc.runVerify
  split
  case h_1 =>
    split
    · exact .of_idle rfl
    · exact h
  all_goals exact h

theorem Fdc.NoTransfer.runDelay_eq : f.runDelay = f := by
  unfold Fdc.runDelay
  split
  case h_1 x d hp => exact absurd hp ((h x).1 d)
  all_goals rfl

theorem Fdc.NoTransfer.runRequest_eq : f.runRequest w = f := by
  unfold Fdc.runRequest
  split
  case h_1 x hp => exact absurd hp (h x).2
  all_goals rfl

/-- Without a request bit 6 of the system register reads 0 (R564). -/
theorem Fdc.NoTransfer.systemByte : f.systemByte.getLsbD 6 = false := by
  unfold Fdc.systemByte
  split
  case h_1 x hp => exact absurd hp (h x).2
  all_goals cases f.intrq <;> rfl

end

/-- A controller without media has no transfer once it has caught up: it drops one first, and no sub-state starts one. -/
theorem Fdc.update_noTransfer {f : Fdc} (h : f.ready = false) (w : FdcTiming) (clk : Int) : (f.update w clk).NoTransfer := by
  unfold Fdc.update
  dsimp only
  split
  case isTrue =>
    let g : Fdc := { f with elapsed := f.elapsed + (clk - f.baseline).toNat, baseline := clk }
    have hg : ((g.dropTransfer.runSteps w).runVerify w).NoTransfer :=
      ((Fdc.NoTransfer.dropTransfer (f := g) h).runSteps w).runVerify w
    rw [hg.runDelay_eq, hg.runRequest_eq]
    exact hg
  case isFalse hidle =>
    refine .of_idle ?_
    unfold Fdc.busy at hidle
    split at hidle
    case h_1 hp => exact hp
    all_goals exact absurd rfl hidle

/-- Settles O59: without media a command that transfers ends at once, and a transfer under way is dropped. -/
theorem floppyNotReadyAndBusy : Obligations.FloppyNotReadyAndBusy := by
  unfold Obligations.FloppyNotReadyAndBusy
  intro f w v clk
  refine ⟨fun hm => ?_, fun hm hbusy hv hd => ?_, fun hm => ?_, fun hbusy hd => ?_⟩
  · rw [f.statusByte_notReady, Fdc.ready_of_none hm]
    rfl
  · obtain ⟨x, hx⟩ := Fdc.writeCommand_transfer (w := w) hbusy hv hd
    rw [hx, Fdc.startTransfer_of_notReady (Fdc.ready_of_none hm)]
    exact ⟨rfl, rfl, rfl, rfl⟩
  · have h := Fdc.update_noTransfer (Fdc.ready_of_none hm) w clk
    exact ⟨fun x => (h x).2, h.systemByte⟩
  · rw [Fdc.writeCommand, if_neg hd, if_pos hbusy]

/-! ## The tape deck (R569) -/

/-- A stopped deck only forgets the elapsed time. -/
theorem Tape.update_of_stop {d : Tape} (h : d.phase = .stop) (w : TapeTiming) (clk : Int) :
    d.update w clk = { d with elapsed := 0, baseline := clk } := by
  simp [Tape.update, Tape.consume, Tape.width, h]

/-- The end of the last bit of a block. -/
theorem Tape.boundary_of_lastBit {d : Tape} {k : Nat} (h : d.phase = .data k 0 true) (hk : d.blockLength ≤ k + 1)
    (w : TapeTiming) : d.boundary w = ({ d with latch := !d.latch } : Tape).nextBlock := by
  rw [Tape.boundary, h]
  exact if_neg (Nat.not_lt.mpr hk)

/-- A silence that stands at the end of the image has no block after it. -/
theorem Tape.boundary_of_imageEnd {d : Tape} (h : d.phase = .silence) (hpos : d.pos = d.image.length) (w : TapeTiming) :
    d.boundary w = { d with phase := .stop } := by
  have hnone : d.hasBlock = false := by
    rw [Tape.hasBlock, hpos]
    simp
  rw [Tape.boundary, h]
  exact if_neg (by simp [hnone])

/-- Settles O60: each clause is one of the deck's boundaries, or an update of the stopped deck. -/
theorem tapePulses : Obligations.TapePulses := by
  unfold Obligations.TapePulses
  intro d w clk k
  refine ⟨fun h => Tape.update_of_stop h w clk, fun hstop hsilence => ?_, fun h hk => ?_, fun h hpos => ?_, fun h => ?_⟩
  · rw [d.boundary_latch]
    split
    · contradiction
    · contradiction
    · rfl
  · rw [Tape.boundary_of_lastBit h hk]
    exact ⟨rfl, rfl⟩
  · rw [Tape.boundary_of_imageEnd h hpos]
  · rw [d.boundary_latch, h]

end Sys2Proof.Machine
end
